-- ==== Sys2Proof/Word.lean ====
section
/-! DEFINITION. The words of the model: characters, return tags, tote numbers and ports. -/

namespace Sys2Proof

/-- One character of the line: eight data bits (R158). -/
abbrev Byte := BitVec 8

/-- A 32-bit return tag, the key of the case table (R1, R2). -/
abbrev Tag := BitVec 32

/-- A tote number, T0 to T255 (R122). -/
abbrev ToteNo := BitVec 8

/-- A Floor Link port, P0 to P7 (R157). -/
abbrev Port := Fin 8

end Sys2Proof
end

