-- ==== Sys2Proof/Config.lean ====
section
/-! DEFINITION. The part's fixed sizes and limits, each with the rule that gives it, and the free values. -/

namespace Sys2Proof

/-- The case table holds at most 1024 cases (R1). -/
def Config.maxCases : Nat := 1024

/-- The outbound manifest queue holds at most 16 records (R135). -/
def Config.maxRecords : Nat := 16

/-- The overflow walk visits at most four totes (R105). -/
def Config.walkLimit : Nat := 4

/-- The largest second count, at which counts and deadlines are held (R139, R141). -/
def Config.maxCount : Nat := 4294967295

/-- The largest day number (R139, R142). -/
def Config.maxDay : Nat := 65535

/-- The ceiling of the deduction and of the wear sum, in sixteenths (R55, R56). -/
def Config.ceiling : Nat := 65535

/-- The sampler's state after device reset, and after a seed of 0 (R86, R89). -/
def Config.samplerReset : BitVec 16 := 0x5A3C

/-- The SYNC character (R158). -/
def Config.sync : Byte := 0xA5

/-- The least and the largest LEN of a frame (R158, R161). -/
def Config.minLen : Nat := 2
def Config.maxLen : Nat := 160

/-- A free value: the spec gives the releases of one port reset, and the lapses of one second event, no order among
themselves (R35, R41, R141). Nothing constrains it. `State.freeCount` says how many have been used. -/
opaque Config.freeChoice : Nat → Nat

/-- Free values: the field characters of a reply, or of a part of it, whose layout the guide does not state, from the items it carries
(log entry 10). `place` tells the parts of one reply apart. Nothing constrains them. -/
opaque Config.freeFields {α : Type} (place : Nat) (items : α) : List Byte

end Sys2Proof
end

