-- ==== Sys2Proof/Syntax.lean ====
section
/-! DEFINITION. The commands: one constructor of `Instr` for each row of opcode_table.json, over the operands that R160 and R167 give
its request, and the requests that the port slots hold. Operands have their width on the line. -/

namespace Sys2Proof

/-- The five attributes of an item, declared or observed (R2, R44). -/
structure Attributes where
  size     : BitVec 6
  colour   : Byte
  label    : Byte
  material : BitVec 6
  fitted   : Bool
  deriving DecidableEq, Repr

/-- A set of the five attributes: a compare mask or a mismatch set (R4, R74). -/
structure AttrSet where
  size     : Bool
  colour   : Bool
  label    : Bool
  material : Bool
  fitted   : Bool
  deriving DecidableEq, Repr

/-- One observation of a grade submission (R44). -/
structure Observation where
  defect   : BitVec 6
  severity : BitVec 4
  deriving DecidableEq, Repr

/-- The fields of Expect Return (R8, R167). -/
structure Announcement where
  tag      : Tag
  category : Byte
  sku      : BitVec 16
  size     : Byte
  colour   : Byte
  label    : Byte
  material : Byte
  fitted   : Bool
  delivery : BitVec 16
  deriving DecidableEq, Repr

/-- One entry of Write Weights (R76, R167). -/
structure WeightWrite where
  weight : BitVec 16
  wear   : Bool
  deriving DecidableEq, Repr

/-- The fields of Write Category after the category (R78, R167). The scale step is a signed character. -/
structure CategoryWrite where
  step      : Byte
  tA        : BitVec 16
  tB        : BitVec 16
  tC        : BitVec 16
  window    : Byte
  rate      : BitVec 16
  tolerance : BitVec 16
  mask      : AttrSet
  wearLimit : BitVec 16
  deriving DecidableEq, Repr

/-- One entry of Write Tote Map (R101, R167). -/
structure MapWrite where
  cls      : Byte
  category : Byte
  valid    : Bool
  tote     : ToteNo
  deriving DecidableEq, Repr

/-- The fields of Write Tote (R126, R167). The link is absent when its mark is clear. -/
structure ToteWrite where
  tote     : ToteNo
  state    : Byte
  capacity : Byte
  link     : Option ToteNo
  deriving DecidableEq, Repr

/-- The fields of Set Clock (R146, R167). -/
structure ClockWrite where
  second  : Byte
  minute  : Byte
  hour    : Byte
  weekday : Byte
  day     : BitVec 16
  deriving DecidableEq, Repr

/-- The fields of Write Settings (R170, R167). Bit n of `auditCapable` is the mark of port Pn. -/
structure SettingsWrite where
  holdLimit    : BitVec 16
  dwellLimit   : BitVec 16
  expectLimit  : Byte
  everyError   : Bool
  auditCapable : BitVec 8
  deriving DecidableEq, Repr

/-- A request as a port's slot holds it (R163): one of the 31 kinds of the catalogue with its fields (R167), a kind that is no
code of the catalogue, or a known kind with a body of the wrong length (R165). -/
inductive Request where
  | fetchCase (tag : Tag)
  | queryNotice
  | setNoticeMask (marks : BitVec 12)
  | readClock
  | queryLine
  | expectReturn (a : Announcement)
  | cancelReturn (tag : Tag)
  | reviveCase (tag : Tag)
  | closeCase (tag : Tag)
  | forceDisposition (tag : Tag) (band gate : Byte)
  | writeWeights (category first : Byte) (entries : List WeightWrite)
  | writeCategory (category : Byte) (w : CategoryWrite)
  | writeToteMap (entries : List MapWrite)
  | writeTote (w : ToteWrite)
  | readTote (tote : ToteNo)
  | takeManifest
  | setClock (w : ClockWrite)
  | reseedSampler (seed : BitVec 16)
  | readErrors
  | clearErrors
  | writeSettings (w : SettingsWrite)
  | goLive
  | goConfig
  | clearFloor
  | claimCase (tag : Tag)
  | submitGrade (tag : Tag) (observed : Attributes) (observations : List Observation)
  | releaseCase (tag : Tag)
  | routeQuery (tag : Tag)
  | confirmPlacement (tag : Tag) (tote : ToteNo)
  | cancelRoute (tag : Tag)
  | toteSwap (tote : ToteNo)
  | unknownKind (kind : Byte)
  | wrongLength (kind : Byte)
  deriving DecidableEq, Repr

/-- The commands, one for each row of opcode_table.json. A request row carries the port it arrives on, the request number
that its reply copies (R158) and the request's fields. -/
inductive Instr where
  -- requests of every role
  | fetchCase (p : Port) (num : Byte) (tag : Tag)
  | queryNotice (p : Port) (num : Byte)
  | setNoticeMask (p : Port) (num : Byte) (marks : BitVec 12)
  | readClock (p : Port) (num : Byte)
  | queryLine (p : Port) (num : Byte)
  -- STOCK requests
  | expectReturn (p : Port) (num : Byte) (a : Announcement)
  | cancelReturn (p : Port) (num : Byte) (tag : Tag)
  | reviveCase (p : Port) (num : Byte) (tag : Tag)
  | closeCase (p : Port) (num : Byte) (tag : Tag)
  | forceDisposition (p : Port) (num : Byte) (tag : Tag) (band gate : Byte)
  | writeWeights (p : Port) (num : Byte) (category first : Byte) (entries : List WeightWrite)
  | writeCategory (p : Port) (num : Byte) (category : Byte) (w : CategoryWrite)
  | writeToteMap (p : Port) (num : Byte) (entries : List MapWrite)
  | writeTote (p : Port) (num : Byte) (w : ToteWrite)
  | readTote (p : Port) (num : Byte) (tote : ToteNo)
  | takeManifest (p : Port) (num : Byte)
  | setClock (p : Port) (num : Byte) (w : ClockWrite)
  | reseedSampler (p : Port) (num : Byte) (seed : BitVec 16)
  | readErrors (p : Port) (num : Byte)
  | clearErrors (p : Port) (num : Byte)
  | writeSettings (p : Port) (num : Byte) (w : SettingsWrite)
  | goLive (p : Port) (num : Byte)
  | goConfig (p : Port) (num : Byte)
  | clearFloor (p : Port) (num : Byte)
  -- BENCH requests
  | claimCase (p : Port) (num : Byte) (tag : Tag)
  | submitGrade (p : Port) (num : Byte) (tag : Tag) (observed : Attributes) (observations : List Observation)
  | releaseCase (p : Port) (num : Byte) (tag : Tag)
  -- INDUCT requests
  | routeQuery (p : Port) (num : Byte) (tag : Tag)
  | confirmPlacement (p : Port) (num : Byte) (tag : Tag) (tote : ToteNo)
  | cancelRoute (p : Port) (num : Byte) (tag : Tag)
  | toteSwap (p : Port) (num : Byte) (tote : ToteNo)
  -- a good frame of a kind that is no code of the catalogue
  | badKindRequest (p : Port) (num : Byte) (kind : Byte)
  -- events of time
  | secondEvent
  | holdLapse (tag : Tag)
  | dwellLapse (tag : Tag)
  | midnightRollover
  | sweepVisit (tag : Tag)
  -- events on pins; a device reset carries the levels it samples: bits 2n+1 and 2n of `roles` are straps ROLEnB and ROLEnA
  | stopRise
  | stopFall
  | deviceReset (roles : BitVec 16) (rate : BitVec 2) (stop : Bool)
  | portReset (p : Port)
  -- events of the grading engine and the tote register
  | computationStart
  | firstGradeCompletion
  | auditGradeCompletion
  | drainCompletion (tote : ToteNo)
  | waitingToteDeparture
  -- events on a port's line; a good frame carries its characters from SYNC to CHK, a gap the late character
  | goodFrame (p : Port) (chars : List Byte)
  | replySent (p : Port)
  | parityError (p : Port)
  | framingError (p : Port)
  | checkError (p : Port)
  | lengthError (p : Port)
  | gapTimeout (p : Port) (late : Byte)
  | portOverrun (p : Port)
  | lineReturnToMark (p : Port)
  deriving DecidableEq, Repr

end Sys2Proof
end

