-- ==== Sys2Proof/Decode.lean ====
section
/-! DEFINITION. Characters as the eleven bits of the line (R158). Frames: the check character, the catalogue of request kinds and the body layouts (R158, R159, R160, R165, R167), read and
written; and `decodeTableWord`, over the rows of opcode_table.json that give bits (none of them does). -/

namespace Sys2Proof

/-- The data bits of a character, in the order sent: lowest first (R158). -/
def dataBits (b : Byte) : List Bool := (List.range 8).map b.getLsbD

/-- The character whose data bits arrived in that order (R158). -/
def ofDataBits (bits : List Bool) : Byte := BitVec.ofNat 8 (bits.foldr (fun bit n => bit.toNat + 2 * n) 0)

/-- The number of ones among some bits is odd: the value of the even parity bit over them (R158). -/
def oddOnes (bits : List Bool) : Bool := bits.foldr xor false

/-- A character on the line, in the order sent: the start bit (space), eight data bits, the even parity bit, the stop bit (mark)
(R158). Mark is `true`. -/
def charBits (b : Byte) : List Bool := false :: (dataBits b ++ [oddOnes (dataBits b), true])

/-- What a receiver makes of a character's eleven bits: the data, whether the parity is even, whether the stop bit stands (R158, R161). -/
structure LineChar where
  data     : Byte
  parityOk : Bool
  stopOk   : Bool
  deriving DecidableEq, Repr

/-- Eleven bits of the line read as a character; none where no start bit stands in front (R158). -/
def readChar : List Bool → Option LineChar
  | false :: bits =>
    if bits.length = 10 then
      some { data := ofDataBits (bits.take 8), parityOk := !oddOnes (bits.take 9), stopOk := bits.getD 9 false }
    else none
  | _ => none

/-- One bit step of the CRC-8 with polynomial x^8 + x^2 + x + 1 (R159). -/
def crcBit (c : Byte) : Byte :=
  if c.msb then (c <<< 1) ^^^ 0x07 else c <<< 1

/-- One character of the CRC-8, most significant bit first (R159). -/
def crcByte (c b : Byte) : Byte :=
  crcBit (crcBit (crcBit (crcBit (crcBit (crcBit (crcBit (crcBit (c ^^^ b))))))))

/-- CHK over LEN and the body characters, initial value 0, no final inversion (R159). -/
def crc8 (chars : List Byte) : Byte :=
  chars.foldl crcByte 0

/-- A frame as sent on the line: SYNC, LEN, the body, CHK (R158). -/
def frameChars (body : List Byte) : List Byte :=
  let len := BitVec.ofNat 8 body.length
  Config.sync :: len :: body ++ [crc8 (len :: body)]

/-- A number of two characters, most significant first (R158). -/
def word16 (a b : Byte) : BitVec 16 := BitVec.ofNat 16 (a.toNat * 256 + b.toNat)

/-- A number of four characters, most significant first (R158). -/
def word32 (a b c d : Byte) : BitVec 32 :=
  BitVec.ofNat 32 (((a.toNat * 256 + b.toNat) * 256 + c.toNat) * 256 + d.toNat)

/-- The one, two or four characters of a number, most significant first (R158). -/
def chars1 (n : Nat) : List Byte := [BitVec.ofNat 8 n]
def chars2 (n : Nat) : List Byte := [BitVec.ofNat 8 (n / 256), BitVec.ofNat 8 n]
def chars4 (n : Nat) : List Byte :=
  [BitVec.ofNat 8 (n / 16777216), BitVec.ofNat 8 (n / 65536), BitVec.ofNat 8 (n / 256), BitVec.ofNat 8 n]

/-- Bit 0 of a character, as the marks of R167 are sent. -/
def mark (b : Byte) : Bool := b.getLsbD 0
def markChar (b : Bool) : Byte := if b then 1 else 0

/-- A set of attributes as a character: size bit 0, colour 1, label 2, material 3, tag fitted 4 (R160). -/
def AttrSet.ofChar (b : Byte) : AttrSet :=
  { size := b.getLsbD 0, colour := b.getLsbD 1, label := b.getLsbD 2, material := b.getLsbD 3, fitted := b.getLsbD 4 }
def AttrSet.toChar (m : AttrSet) : Byte :=
  BitVec.ofNat 8 (m.size.toNat + 2 * m.colour.toNat + 4 * m.label.toNat + 8 * m.material.toNat + 16 * m.fitted.toNat)

/-- The code of each request kind (R167). -/
def Request.kind : Request → Byte
  | .fetchCase .. => 1
  | .queryNotice => 2
  | .setNoticeMask .. => 3
  | .readClock => 4
  | .queryLine => 5
  | .expectReturn .. => 6
  | .cancelReturn .. => 7
  | .reviveCase .. => 8
  | .closeCase .. => 9
  | .forceDisposition .. => 10
  | .writeWeights .. => 11
  | .writeCategory .. => 12
  | .writeToteMap .. => 13
  | .writeTote .. => 14
  | .readTote .. => 15
  | .takeManifest => 16
  | .setClock .. => 17
  | .reseedSampler .. => 18
  | .readErrors => 19
  | .clearErrors => 20
  | .writeSettings .. => 21
  | .goLive => 22
  | .goConfig => 23
  | .clearFloor => 24
  | .claimCase .. => 25
  | .submitGrade .. => 26
  | .releaseCase .. => 27
  | .routeQuery .. => 28
  | .confirmPlacement .. => 29
  | .cancelRoute .. => 30
  | .toteSwap .. => 31
  | .unknownKind k => k
  | .wrongLength k => k

/-- A code of the catalogue: 1 to 31 (R167). -/
def knownKind (k : Byte) : Bool := decide (1 ≤ k.toNat) && decide (k.toNat ≤ 31)

/-- LEN of a typed request: the body characters, kind and request number among them (R167). A request of no known layout is
given the least LEN. -/
def Request.len : Request → Nat
  | .fetchCase .. | .cancelReturn .. | .reviveCase .. | .closeCase .. | .claimCase .. | .releaseCase .. | .routeQuery ..
  | .cancelRoute .. => 6
  | .queryNotice | .readClock | .queryLine | .takeManifest | .readErrors | .clearErrors | .goLive | .goConfig
  | .clearFloor => 2
  | .setNoticeMask .. | .reseedSampler .. => 4
  | .expectReturn .. => 16
  | .forceDisposition .. | .setClock .. => 8
  | .writeWeights _ _ es => 4 + 3 * es.length
  | .writeCategory .. => 18
  | .writeToteMap es => 2 + 4 * es.length
  | .writeTote .. | .confirmPlacement .. => 7
  | .readTote .. | .toteSwap .. => 3
  | .writeSettings .. => 9
  | .submitGrade _ _ obs => 10 + 2 * obs.length
  | .unknownKind _ | .wrongLength _ => 2

/-- R165, check 3: the body's length fits the kind. The three list-carrying kinds admit 0 to 16 observations, 1 to 16 weight
entries and 1 to 16 map entries. -/
def Request.lengthFits : Request → Bool
  | .submitGrade _ _ obs => decide (obs.length ≤ 16)
  | .writeWeights _ _ es => decide (1 ≤ es.length) && decide (es.length ≤ 16)
  | .writeToteMap es => decide (1 ≤ es.length) && decide (es.length ≤ 16)
  | .wrongLength _ => false
  | _ => true

/-- The observations of a Submit Grade body: two characters each (R160); none for an odd rest. -/
def readObservations : List Byte → Option (List Observation)
  | [] => some []
  | [_] => none
  | a :: b :: rest => (readObservations rest).map ({ defect := a.setWidth 6, severity := b.setWidth 4 } :: ·)

/-- The entries of a Write Weights body: three characters each (R167). -/
def readWeights : List Byte → Option (List WeightWrite)
  | [] => some []
  | a :: b :: m :: rest => (readWeights rest).map ({ weight := word16 a b, wear := mark m } :: ·)
  | _ => none

/-- The entries of a Write Tote Map body: four characters each (R167). -/
def readMap : List Byte → Option (List MapWrite)
  | [] => some []
  | c :: g :: v :: t :: rest => (readMap rest).map ({ cls := c, category := g, valid := mark v, tote := t } :: ·)
  | _ => none

/-- A body that carries one tag. -/
def readTag (f : Tag → Request) (k : Byte) : List Byte → Request
  | [a, b, c, d] => f (word32 a b c d)
  | _ => .wrongLength k

/-- A body with no field. -/
def readNone (r : Request) (k : Byte) : List Byte → Request
  | [] => r
  | _ => .wrongLength k

def readMarks (k : Byte) : List Byte → Request
  | [a, b] => .setNoticeMask ((word16 a b).setWidth 12)
  | _ => .wrongLength k

def readExpect (k : Byte) : List Byte → Request
  | [t1, t2, t3, t4, c, s1, s2, sz, co, la, ma, f, d1, d2] =>
    .expectReturn { tag := word32 t1 t2 t3 t4, category := c, sku := word16 s1 s2, size := sz, colour := co, label := la,
                    material := ma, fitted := mark f, delivery := word16 d1 d2 }
  | _ => .wrongLength k

def readForce (k : Byte) : List Byte → Request
  | [a, b, c, d, band, gate] => .forceDisposition (word32 a b c d) band gate
  | _ => .wrongLength k

def readWriteWeights (k : Byte) : List Byte → Request
  | c :: f :: rest => match readWeights rest with
    | some es => .writeWeights c f es
    | none => .wrongLength k
  | _ => .wrongLength k

def readWriteCategory (k : Byte) : List Byte → Request
  | [c, st, a1, a2, b1, b2, c1, c2, w, r1, r2, t1, t2, m, l1, l2] =>
    .writeCategory c { step := st, tA := word16 a1 a2, tB := word16 b1 b2, tC := word16 c1 c2, window := w,
                       rate := word16 r1 r2, tolerance := word16 t1 t2, mask := AttrSet.ofChar m, wearLimit := word16 l1 l2 }
  | _ => .wrongLength k

def readWriteMap (k : Byte) (fields : List Byte) : Request :=
  match readMap fields with
  | some es => .writeToteMap es
  | none => .wrongLength k

def readWriteTote (k : Byte) : List Byte → Request
  | [t, s, c, m, l] => .writeTote { tote := t, state := s, capacity := c, link := if mark m then some l else none }
  | _ => .wrongLength k

def readToteNo (f : ToteNo → Request) (k : Byte) : List Byte → Request
  | [t] => f t
  | _ => .wrongLength k

def readSetClock (k : Byte) : List Byte → Request
  | [s, m, h, w, d1, d2] => .setClock { second := s, minute := m, hour := h, weekday := w, day := word16 d1 d2 }
  | _ => .wrongLength k

def readSeed (k : Byte) : List Byte → Request
  | [a, b] => .reseedSampler (word16 a b)
  | _ => .wrongLength k

def readSettings (k : Byte) : List Byte → Request
  | [h1, h2, d1, d2, x, e, a] =>
    .writeSettings { holdLimit := word16 h1 h2, dwellLimit := word16 d1 d2, expectLimit := x, everyError := mark e, auditCapable := a }
  | _ => .wrongLength k

/-- The Submit Grade body after kind and number (R160). -/
def readSubmit (k : Byte) : List Byte → Request
  | a :: b :: c :: d :: sz :: co :: la :: ma :: rest => match readObservations rest with
    | some obs =>
      .submitGrade (word32 a b c d)
        { size := sz.setWidth 6, colour := co, label := la, material := ma.setWidth 6, fitted := sz.getLsbD 6 } obs
    | none => .wrongLength k
  | _ => .wrongLength k

def readConfirm (k : Byte) : List Byte → Request
  | [a, b, c, d, t] => .confirmPlacement (word32 a b c d) t
  | _ => .wrongLength k

/-- The request that a good frame's kind and fields spell (R160, R167). Bits above a field's width are ignored. -/
def readRequest (k : Byte) (fields : List Byte) : Request :=
  match k.toNat with
  | 1 => readTag .fetchCase k fields
  | 2 => readNone .queryNotice k fields
  | 3 => readMarks k fields
  | 4 => readNone .readClock k fields
  | 5 => readNone .queryLine k fields
  | 6 => readExpect k fields
  | 7 => readTag .cancelReturn k fields
  | 8 => readTag .reviveCase k fields
  | 9 => readTag .closeCase k fields
  | 10 => readForce k fields
  | 11 => readWriteWeights k fields
  | 12 => readWriteCategory k fields
  | 13 => readWriteMap k fields
  | 14 => readWriteTote k fields
  | 15 => readToteNo .readTote k fields
  | 16 => readNone .takeManifest k fields
  | 17 => readSetClock k fields
  | 18 => readSeed k fields
  | 19 => readNone .readErrors k fields
  | 20 => readNone .clearErrors k fields
  | 21 => readSettings k fields
  | 22 => readNone .goLive k fields
  | 23 => readNone .goConfig k fields
  | 24 => readNone .clearFloor k fields
  | 25 => readTag .claimCase k fields
  | 26 => readSubmit k fields
  | 27 => readTag .releaseCase k fields
  | 28 => readTag .routeQuery k fields
  | 29 => readConfirm k fields
  | 30 => readTag .cancelRoute k fields
  | 31 => readToteNo .toteSwap k fields
  | _ => .unknownKind k

/-- The characters of an observation, a weight entry and a map entry (R160, R167). -/
def Observation.chars (o : Observation) : List Byte := [o.defect.setWidth 8, o.severity.setWidth 8]
def WeightWrite.chars (w : WeightWrite) : List Byte := chars2 w.weight.toNat ++ [markChar w.wear]
def MapWrite.chars (e : MapWrite) : List Byte := [e.cls, e.category, markChar e.valid, e.tote]

/-- The field characters of a request, after kind and number (R160, R167); none for a request of no known layout. -/
def Request.fields : Request → List Byte
  | .fetchCase t | .cancelReturn t | .reviveCase t | .closeCase t | .claimCase t | .releaseCase t | .routeQuery t
  | .cancelRoute t => chars4 t.toNat
  | .queryNotice | .readClock | .queryLine | .takeManifest | .readErrors | .clearErrors | .goLive | .goConfig
  | .clearFloor => []
  | .setNoticeMask m => chars2 m.toNat
  | .expectReturn a => chars4 a.tag.toNat ++ [a.category] ++ chars2 a.sku.toNat ++
      [a.size, a.colour, a.label, a.material, markChar a.fitted] ++ chars2 a.delivery.toNat
  | .forceDisposition t b g => chars4 t.toNat ++ [b, g]
  | .writeWeights c f es => c :: f :: es.flatMap WeightWrite.chars
  | .writeCategory c w => [c, w.step] ++ chars2 w.tA.toNat ++ chars2 w.tB.toNat ++ chars2 w.tC.toNat ++ [w.window] ++
      chars2 w.rate.toNat ++ chars2 w.tolerance.toNat ++ [w.mask.toChar] ++ chars2 w.wearLimit.toNat
  | .writeToteMap es => es.flatMap MapWrite.chars
  | .writeTote w => [w.tote, w.state, w.capacity, markChar w.link.isSome, w.link.getD 0]
  | .readTote t | .toteSwap t => [t]
  | .setClock w => [w.second, w.minute, w.hour, w.weekday] ++ chars2 w.day.toNat
  | .reseedSampler s => chars2 s.toNat
  | .writeSettings w => chars2 w.holdLimit.toNat ++ chars2 w.dwellLimit.toNat ++
      [w.expectLimit, markChar w.everyError, w.auditCapable]
  | .submitGrade t a obs => chars4 t.toNat ++
      [a.size.setWidth 8 ||| (if a.fitted then 0x40 else 0), a.colour, a.label, a.material.setWidth 8] ++
      obs.flatMap Observation.chars
  | .confirmPlacement t n => chars4 t.toNat ++ [n]
  | .unknownKind _ | .wrongLength _ => []

/-- The frame that carries a request under a request number (R158). -/
def Request.frame (num : Byte) (r : Request) : List Byte :=
  frameChars (r.kind :: num :: r.fields)

/-- The command a word spells by the table's bits. No row of opcode_table.json gives bits, so no word spells one (log entry 9). -/
def decodeTableWord (_nbits _w : Nat) : Option Instr := none

end Sys2Proof
end

