-- ==== Sys2Proof/Machine/Store.lean ====
section
/-! DEFINITION. Sparse tables: key and value pairs in one canonical form, so that equal tables are equal data. -/

namespace Sys2Proof.Machine

/-- Key and value pairs. In the canonical form (`Store.sorted`) the keys are strictly rising. -/
structure Store (ν : Type) where
  entries : List (Nat × ν)
  deriving DecidableEq, Repr

variable {ν : Type}

def Store.empty : Store ν := ⟨[]⟩

def findIn (k : Nat) : List (Nat × ν) → Option ν
  | [] => none
  | e :: r => if e.1 = k then some e.2 else findIn k r

def insertIn (k : Nat) (v : ν) : List (Nat × ν) → List (Nat × ν)
  | [] => [(k, v)]
  | e :: r => if k < e.1 then (k, v) :: e :: r else if e.1 = k then (k, v) :: r else e :: insertIn k v r

def eraseIn (k : Nat) : List (Nat × ν) → List (Nat × ν)
  | [] => []
  | e :: r => if e.1 = k then eraseIn k r else e :: eraseIn k r

/-- The value at a key, if the store lists it. -/
def Store.find? (m : Store ν) (k : Nat) : Option ν := findIn k m.entries

def Store.insert (m : Store ν) (k : Nat) (v : ν) : Store ν := ⟨insertIn k v m.entries⟩

def Store.erase (m : Store ν) (k : Nat) : Store ν := ⟨eraseIn k m.entries⟩

/-- The value at a key of a table that holds one at every key: `d` where the store lists none. -/
def Store.get (d : ν) (m : Store ν) (k : Nat) : ν := (m.find? k).getD d

/-- Write a table that holds a value at every key: `d` is not listed. -/
def Store.put [DecidableEq ν] (d : ν) (m : Store ν) (k : Nat) (v : ν) : Store ν :=
  if v = d then m.erase k else m.insert k v

/-- Apply a function to every listed value. -/
def Store.mapValues (f : ν → ν) (m : Store ν) : Store ν := ⟨m.entries.map fun e => (e.1, f e.2)⟩

def Store.size (m : Store ν) : Nat := m.entries.length

/-- The keys are strictly rising from `lo` on. -/
def risingFrom (lo : Nat) : List (Nat × ν) → Bool
  | [] => true
  | e :: r => decide (lo ≤ e.1) && risingFrom (e.1 + 1) r

/-- The canonical form of a store: keys strictly rising. -/
def Store.sorted (m : Store ν) : Bool := risingFrom 0 m.entries

/-- The canonical form of a table that holds a value at every key: `d` is nowhere listed. -/
def Store.lists [DecidableEq ν] (d : ν) (m : Store ν) : Bool := m.sorted && m.entries.all fun e => decide (e.2 ≠ d)

end Sys2Proof.Machine
end

