-- ==== Sys2Proof/Machine/Types.lean ====
section
/-! DEFINITION. The records the part holds and the replies it gives, as the chapters of spec/ lay them out, and the value of each
part of the state after device reset. -/

namespace Sys2Proof.Machine

/-- The nine case states, in the order of R7. -/
inductive CaseState where
  | expected | lapsed | onBench | grading | graded | routed | placed | auditWait | onAudit
  deriving DecidableEq, Repr

/-- R6. -/
inductive Location where
  | none
  | inTote (t : ToteNo)
  | departed
  deriving DecidableEq, Repr

/-- The grade letter (R4, R13). -/
inductive Band where
  | a | b | c | d | q
  deriving DecidableEq, Repr

/-- R15. -/
inductive Gate where
  | release | hold
  deriving DecidableEq, Repr

/-- R14, R100. -/
inductive RouteClass where
  | restock | outlet | repair | salvage | review | audit
  deriving DecidableEq, Repr

/-- R5, R96. -/
inductive AuditOutcome where
  | agree | dispute
  deriving DecidableEq, Repr

/-- R44. -/
inductive GradeKind where
  | first | audit
  deriving DecidableEq, Repr

/-- R26. `due` is the model's own: the last second event reached this deadline and the lapse is not yet taken (log entry 4). -/
structure Hold where
  port     : Port
  deadline : Nat
  due      : Bool
  deriving DecidableEq, Repr

/-- R3, R115. `due` is as in `Hold`. -/
structure Reservation where
  tote     : ToteNo
  deadline : Nat
  due      : Bool
  deriving DecidableEq, Repr

/-- R4. -/
structure GradeRecord where
  grader    : Port
  deduction : Nat
  wear      : Nat
  score     : Nat
  band      : Band
  mismatch  : AttrSet
  ceilingFlag : Bool
  floorFlag   : Bool
  clampedFlag : Bool
  wearFlag    : Bool
  lateFlag    : Bool
  deriving DecidableEq, Repr

/-- The part of an audit that resolution writes (R5). -/
structure Resolution where
  auditor : Port
  grade   : GradeRecord
  outcome : AuditOutcome
  deriving DecidableEq, Repr

/-- R5. -/
structure AuditPart where
  selected   : Bool
  resolution : Option Resolution
  deriving DecidableEq, Repr

/-- A case record (R2, R3). Its tag is its key in the case table. -/
structure Case where
  state       : CaseState
  category    : Fin 16
  sku         : BitVec 16
  declared    : Attributes
  deliveryDay : Nat
  openedDay   : Nat
  override    : Bool
  location    : Location
  holder           : Option Hold
  lastLapsedHolder : Option Port
  firstGrade       : Option GradeRecord
  audit            : Option AuditPart
  finalBand        : Option Band
  refundGate       : Option Gate
  reservation      : Option Reservation
  lastLapsedTote   : Option ToteNo
  routeClass       : Option RouteClass
  deriving DecidableEq, Repr

/-- R44. -/
structure Submission where
  tag          : Tag
  grader       : Port
  kind         : GradeKind
  observed     : Attributes
  observations : List Observation
  deriving DecidableEq, Repr

/-- R73. -/
structure WeightEntry where
  weight : Nat
  wear   : Bool
  deriving DecidableEq, Repr

/-- R54, R74: the scale steps −2, −1, 0 and +1. -/
inductive ScaleStep where
  | minusTwo | minusOne | zero | plusOne
  deriving DecidableEq, Repr

/-- R74. -/
structure CategoryRecord where
  step      : ScaleStep
  tA        : Nat
  tB        : Nat
  tC        : Nat
  window    : Nat
  rate      : Nat
  tolerance : Nat
  mask      : AttrSet
  wearLimit : Nat
  deriving DecidableEq, Repr

/-- The submission being computed, with all that the engine read at the beginning of the computation (R46). -/
structure Computation where
  submission : Submission
  category   : Fin 16
  declared   : Attributes
  record     : CategoryRecord
  weights    : Store WeightEntry
  deriving DecidableEq, Repr

/-- R123. -/
inductive ToteState where
  | unused | opened | full | draining
  deriving DecidableEq, Repr

/-- R122. -/
structure Tote where
  state    : ToteState
  capacity : Nat
  filled   : Nat
  reserved : Nat
  link     : Option ToteNo
  manifest : List Tag
  deriving DecidableEq, Repr

/-- R135. -/
structure DepartureRecord where
  tote   : ToteNo
  second : Nat
  tags   : List Tag
  deriving DecidableEq, Repr

/-- R139. The sweep is inactive (`none`) or in flight with the tags of the cases not yet visited. -/
structure Calendar where
  second      : Nat
  minute      : Nat
  hour        : Nat
  weekday     : Nat
  day         : Nat
  secondCount : Nat
  sweep       : Option (List Tag)
  deriving DecidableEq, Repr

/-- The five kinds of floor error (R153). -/
inductive ErrorKind where
  | unmappedRoute | wrongTote | latePlacement | holdLapsed | portOverrun
  deriving DecidableEq, Repr

/-- A set of error kinds (R153). -/
structure KindSet where
  unmappedRoute : Bool
  wrongTote     : Bool
  latePlacement : Bool
  holdLapsed    : Bool
  portOverrun   : Bool
  deriving DecidableEq, Repr

/-- R153. -/
structure ErrorRecord where
  kind   : ErrorKind
  port   : Port
  tag    : Option Tag
  tote   : Option ToteNo
  second : Nat
  deriving DecidableEq, Repr

/-- R153. -/
structure ErrorCapture where
  record   : Option ErrorRecord
  locked   : Bool
  multiple : Bool
  summary  : KindSet
  deriving DecidableEq, Repr

/-- R170. -/
structure Settings where
  holdLimit    : Nat
  dwellLimit   : Nat
  expectLimit  : Nat
  everyError   : Bool
  auditCapable : BitVec 8
  deriving DecidableEq, Repr

/-- R168. -/
inductive Mode where
  | config | live
  deriving DecidableEq, Repr

/-- R157. -/
inductive Role where
  | off | bench | induct | stock
  deriving DecidableEq, Repr

/-- R157. -/
inductive LineRate where
  | r19200 | r57600 | r115200 | r230400
  deriving DecidableEq, Repr

/-- The twelve notice causes, in the order of their priorities (R149). -/
inductive Cause where
  | stopChange | errorCaptured | holdLapsed | routeLapsed | toteFull | swapDone | auditReady | auditDispute | quarantined
  | caseLapsed | dayClosed | lineFault
  deriving DecidableEq, Repr

/-- The detail of a notice (R149). -/
inductive Detail where
  | stopLevel (asserted : Bool)
  | error (kind : ErrorKind)
  | tag (t : Tag)
  | tote (t : ToteNo)
  | day (n : Nat)
  | none
  deriving DecidableEq, Repr

/-- R161. -/
structure LineStatus where
  parity  : Bool
  framing : Bool
  check   : Bool
  length  : Bool
  gap     : Bool
  overrun : Bool
  deriving DecidableEq, Repr

/-- A port's frame assembler (R159): idle, after SYNC, or in a frame of `len` body characters of which `got` have arrived. -/
inductive Assembler where
  | idle
  | synced
  | body (len : Byte) (got : List Byte)
  deriving DecidableEq, Repr

/-- The status codes, in the order of their numbers (R167). -/
inductive Status where
  | ok | renewed | replaced | clamped | unknownTag | duplicate | tableFull | wrongState | heldElsewhere | notHolder | lapsedHold
  | caseLapsed | sameGrader | notAuditor | role | notLive | wrongMode | badValue | badLength | badKind | tableInUse | busy
  | tooLate | wrongTote | empty
  deriving DecidableEq, Repr

/-- The answers to a Route Query (R103). -/
inductive RouteAnswer where
  | tote (t : ToteNo) (cls : Option RouteClass) (deadline : Nat)
  | hold (cls : RouteClass)
  | exception (cls : RouteClass)
  | stopped
  | notReady (state : CaseState)
  | unknownTag
  deriving DecidableEq, Repr

/-- The result a Submit Grade reply carries (R68). -/
structure GradeResult where
  tag       : Tag
  kind      : GradeKind
  grade     : GradeRecord
  selected  : Bool
  outcome   : Option AuditOutcome
  finalBand : Option Band
  cls       : Option RouteClass
  deriving DecidableEq, Repr

/-- What a reply carries besides its status. -/
inductive ReplyData where
  | none
  /-- R8, R10, R12, R27, R109, R113: the case's state. -/
  | caseState (state : CaseState)
  /-- R19. -/
  | stateLocation (state : CaseState) (location : Location)
  /-- R21. -/
  | stateBand (state : CaseState) (band : Option Band)
  /-- R34, R38: the state and, when the case has a holder, the holding port. -/
  | stateHolder (state : CaseState) (holder : Option Port)
  /-- R30. -/
  | holderPort (p : Port)
  /-- R28, R29, R32. -/
  | claimed (category : Fin 16) (sku : BitVec 16) (declared : Attributes) (deadline : Nat)
  /-- R16, R17: the record, or its blind view. -/
  | caseRecord (tag : Tag) (view : Case)
  /-- R151: the cause (none for NONE), its detail, and the causes still pending. -/
  | notice (cause : Option Cause) (detail : Detail) (pending : List Cause)
  /-- R152. -/
  | pendingCauses (pending : List Cause)
  /-- R147. -/
  | clock (second minute hour weekday day secondCount : Nat) (sweepMark : Bool)
  /-- R146. -/
  | clockSet (second minute hour weekday day secondCount : Nat)
  /-- R162. -/
  | lineStatus (flags : LineStatus)
  /-- R79. -/
  | categoryRecord (record : CategoryRecord)
  /-- R126, R127. -/
  | toteRecord (tote : Tote)
  /-- R129. -/
  | toteRead (tote : Tote) (waiting : Bool)
  /-- R136. -/
  | manifest (record : DepartureRecord) (left : Nat)
  /-- R89. -/
  | sampler (state : BitVec 16)
  /-- R155, R156. -/
  | errors (e : ErrorCapture)
  /-- R170. -/
  | settings (set : Settings)
  /-- R169. -/
  | mode (m : Mode)
  /-- R171. -/
  | cleared (cases records : Nat)
  /-- R103: the tag of a Route Query that mode control answers NOT_LIVE. -/
  | tagAlone (tag : Tag)
  /-- R103. -/
  | route (tag : Tag) (answer : RouteAnswer)
  /-- R110. -/
  | placed (state : CaseState) (tote : ToteNo) (filled : Nat) (toteState : ToteState)
  /-- R111, R113: the reserved tote, or the tote whose place was handed back. -/
  | tote (t : ToteNo)
  /-- R130. -/
  | swapped (state : ToteState) (reserved : Nat) (waiting : Bool)
  /-- R68. -/
  | graded (r : GradeResult)
  deriving DecidableEq, Repr

/-- What a block answers a request with. -/
structure Answer where
  status : Status
  data   : ReplyData
  deriving DecidableEq, Repr

/-- A reply: the kind and number copied from the request, the status, and the fields (R158). -/
structure Reply where
  kind   : Byte
  num    : Byte
  status : Status
  data   : ReplyData
  deriving DecidableEq, Repr

/-- A request in a port's slot, with the number its reply will copy (R158, R163). -/
structure Queued where
  num     : Byte
  request : Request
  deriving DecidableEq, Repr

/-- The request in a service slot, and its reply once it is ready (R163). -/
structure InService where
  num     : Byte
  request : Request
  reply   : Option Reply
  deriving DecidableEq, Repr

/-- One Floor Link port with its notice unit (R148, R150, R157, R159, R161, R163, R166). `notices` is keyed by priority number. -/
structure PortState where
  role      : Role
  assembler : Assembler
  service   : Option InService
  waiting   : Option Queued
  line      : LineStatus
  notices   : Store Detail
  enabled   : BitVec 12
  attn      : Bool
  inBreak   : Bool
  deriving DecidableEq, Repr

/-! Values after device reset. -/

/-- An UNUSED tote of capacity 32, as every tote is after device reset (R122). -/
def Tote.unused : Tote :=
  { state := .unused, capacity := 32, filled := 0, reserved := 0, link := none, manifest := [] }

/-- A category record after device reset (R74, R84). -/
def CategoryRecord.neutral : CategoryRecord :=
  { step := .zero, tA := 900, tB := 700, tC := 400, window := 0, rate := 0, tolerance := 50,
    mask := { size := false, colour := false, label := false, material := false, fitted := false }, wearLimit := 0 }

/-- A weight entry after device reset (R84). -/
def WeightEntry.zero : WeightEntry := { weight := 0, wear := false }

/-- A clear line status (R157). -/
def LineStatus.clear : LineStatus :=
  { parity := false, framing := false, check := false, length := false, gap := false, overrun := false }

/-- The empty set of error kinds (R153). -/
def KindSet.none : KindSet :=
  { unmappedRoute := false, wrongTote := false, latePlacement := false, holdLapsed := false, portOverrun := false }

/-- The error capture after device reset and after Clear Errors (R153, R156). -/
def ErrorCapture.clear : ErrorCapture := { record := Option.none, locked := false, multiple := false, summary := .none }

/-- The cell settings after device reset (R170). -/
def Settings.reset : Settings :=
  { holdLimit := 600, dwellLimit := 90, expectLimit := 30, everyError := false, auditCapable := 0 }

/-- The calendar after device reset (R139). -/
def Calendar.reset : Calendar :=
  { second := 0, minute := 0, hour := 0, weekday := 0, day := 0, secondCount := 0, sweep := Option.none }

/-- A port of a given role after device reset (R157). -/
def PortState.reset (role : Role) : PortState :=
  { role := role, assembler := .idle, service := none, waiting := none, line := .clear, notices := .empty, enabled := 0,
    attn := false, inBreak := false }

/-- The role that a pair of strap levels ROLEnB, ROLEnA gives (R157). -/
def Role.ofStraps (b a : Bool) : Role :=
  match b, a with
  | false, false => .off
  | false, true => .bench
  | true, false => .induct
  | true, true => .stock

/-- The line rate that the RATE straps give (R157). -/
def LineRate.ofStraps (r : BitVec 2) : LineRate :=
  match r.getLsbD 1, r.getLsbD 0 with
  | false, false => .r19200
  | false, true => .r57600
  | true, false => .r115200
  | true, true => .r230400

/-- A port as a device reset leaves it: straps ROLEnB and ROLEnA of port Pn are bits 2n+1 and 2n (R157). -/
def PortState.sampled (roles : BitVec 16) (n : Nat) : PortState :=
  .reset (.ofStraps (roles.getLsbD (2 * n + 1)) (roles.getLsbD (2 * n)))

end Sys2Proof.Machine
end

