-- ==== Sys2Proof/Machine/State.lean ====
section
/-! DEFINITION. The state of the part, its values after device reset, and the reasons a step can stop. -/

namespace Sys2Proof.Machine

/-- Nothing the spec describes stops the part: every refusal is a reply and every floor error a capture. No meaning faults. -/
inductive Fault where
  deriving DecidableEq, Repr

/-- The one refusal. Raised by `exec` for a row that has no meaning yet; safe, since nothing follows from a refused step. Every
row has its meaning, so no arm raises it. -/
inductive Refusal where
  | notModelled (mnemonic : String)
  deriving DecidableEq, Repr

/-- The state of the part. Every field but `freeCount` and `pending` is the spec's. -/
structure State where
  cases        : Store Case
  gradingQueue : List Submission
  engine       : Option Computation
  weights      : Store (Store WeightEntry)
  categories   : Store CategoryRecord
  sampler      : BitVec 16
  toteMap      : Store ToteNo
  stopped      : Bool
  totes        : Store Tote
  outbound     : List DepartureRecord
  calendar     : Calendar
  ports        : Vector PortState 8
  errors       : ErrorCapture
  mode         : Mode
  settings     : Settings
  lineRate     : LineRate
  freeCount    : Nat
  pending      : List Instr
  deriving DecidableEq, Repr

/-- The part right after a device reset that sampled the given strap and STOP levels (R172). -/
def State.afterReset (roles : BitVec 16) (rate : BitVec 2) (stop : Bool) : State :=
  { cases := .empty, gradingQueue := [], engine := none, weights := .empty, categories := .empty,
    sampler := Config.samplerReset, toteMap := .empty, stopped := stop, totes := .empty, outbound := [],
    calendar := .reset,
    ports := #v[.sampled roles 0, .sampled roles 1, .sampled roles 2, .sampled roles 3, .sampled roles 4, .sampled roles 5,
                .sampled roles 6, .sampled roles 7],
    errors := .clear, mode := .config, settings := .reset, lineRate := .ofStraps rate, freeCount := 0, pending := [] }

/-- The state after reset. DESIGN CHOICE, unsafe (log entry 1): the straps make P0 to P5 BENCH, P6 INDUCT and P7 STOCK, the
RATE straps read 00 and STOP is not asserted. -/
def State.reset : State := State.afterReset 0xE555 0 false

/-! Named updates, one for each field. -/

def State.withCases (s : State) (x : Store Case) : State := { s with cases := x }
def State.withGradingQueue (s : State) (x : List Submission) : State := { s with gradingQueue := x }
def State.withEngine (s : State) (x : Option Computation) : State := { s with engine := x }
def State.withWeights (s : State) (x : Store (Store WeightEntry)) : State := { s with weights := x }
def State.withCategories (s : State) (x : Store CategoryRecord) : State := { s with categories := x }
def State.withSampler (s : State) (x : BitVec 16) : State := { s with sampler := x }
def State.withToteMap (s : State) (x : Store ToteNo) : State := { s with toteMap := x }
def State.withStopped (s : State) (x : Bool) : State := { s with stopped := x }
def State.withTotes (s : State) (x : Store Tote) : State := { s with totes := x }
def State.withOutbound (s : State) (x : List DepartureRecord) : State := { s with outbound := x }
def State.withCalendar (s : State) (x : Calendar) : State := { s with calendar := x }
def State.withPorts (s : State) (x : Vector PortState 8) : State := { s with ports := x }
def State.withErrors (s : State) (x : ErrorCapture) : State := { s with errors := x }
def State.withMode (s : State) (x : Mode) : State := { s with mode := x }
def State.withSettings (s : State) (x : Settings) : State := { s with settings := x }
def State.withFreeCount (s : State) (x : Nat) : State := { s with freeCount := x }
def State.withPending (s : State) (x : List Instr) : State := { s with pending := x }

end Sys2Proof.Machine
end

