-- ==== Sys2Proof/Machine/Access.lean ====
section
/-! DEFINITION. Reading and writing the tables of the state: the case table, the tote register, the category tables, the ports. -/

namespace Sys2Proof.Machine

/-- Second-count addition, held at the largest second count (R26, R115, R141). -/
def satAdd (a b : Nat) : Nat := min Config.maxCount (a + b)

/-- The day number at this moment (R139). -/
def State.today (s : State) : Nat := s.calendar.day

def State.secondCount (s : State) : Nat := s.calendar.secondCount

/-- The case a tag names (R1). -/
def State.case? (s : State) (t : Tag) : Option Case := s.cases.find? t.toNat

/-- Write a case record under its tag. -/
def State.setCase (s : State) (t : Tag) (c : Case) : State := s.withCases (s.cases.insert t.toNat c)

/-- The tags of the cases present, in key order. -/
def State.caseTags (s : State) : List Tag := s.cases.entries.map fun e => BitVec.ofNat 32 e.1

/-- A tote record (R122). -/
def State.tote (s : State) (t : ToteNo) : Tote := Store.get .unused s.totes t.toNat

def State.setTote (s : State) (t : ToteNo) (k : Tote) : State := s.withTotes (Store.put .unused s.totes t.toNat k)

/-- A category record (R74). -/
def State.category (s : State) (c : Fin 16) : CategoryRecord := Store.get .neutral s.categories c.val

/-- The weight entries of a category, by defect class (R73). -/
def State.weightRow (s : State) (c : Fin 16) : Store WeightEntry := Store.get .empty s.weights c.val

/-- The entry of one defect class in a category's row (R73). -/
def weightIn (row : Store WeightEntry) (defect : Nat) : WeightEntry := Store.get .zero row defect

/-- The key of a route class and category in the tote map (R100). -/
def RouteClass.index : RouteClass → Nat
  | .restock => 0
  | .outlet => 1
  | .repair => 2
  | .salvage => 3
  | .review => 4
  | .audit => 5

def mapKey (cls : RouteClass) (category : Fin 16) : Nat := cls.index * 16 + category.val

/-- The tote map entry of a class and category: the tote it names when it is valid (R100). -/
def State.mapEntry (s : State) (cls : RouteClass) (category : Fin 16) : Option ToteNo := s.toteMap.find? (mapKey cls category)

def State.port (s : State) (p : Port) : PortState := s.ports[p]

/-- Change every port by a function of its number and state. -/
def State.updPorts (s : State) (f : Port → PortState → PortState) : State :=
  s.withPorts #v[f 0 s.ports[0], f 1 s.ports[1], f 2 s.ports[2], f 3 s.ports[3], f 4 s.ports[4], f 5 s.ports[5],
                 f 6 s.ports[6], f 7 s.ports[7]]

/-- Change one port. -/
def State.updPort (s : State) (p : Port) (f : PortState → PortState) : State :=
  s.updPorts fun q x => if q = p then f x else x

/-- A port is in the audit-capable set (R31, R170). -/
def State.auditCapable (s : State) (p : Port) : Bool := s.settings.auditCapable.getLsbD p.val

/-- The tags of all submissions, in the engine or in the grading queue (R44). -/
def State.submissions (s : State) : List Submission :=
  (s.engine.map (·.submission)).toList ++ s.gradingQueue

end Sys2Proof.Machine
end

