-- ==== Sys2Proof/Machine/Operands.lean ====
section
/-! DEFINITION. Operand forms: the codes of R160 and R167 read as the values they stand for, and the roles allowed each kind. -/

namespace Sys2Proof.Machine

/-- A band code that Force Disposition admits: A 0, B 1, C 2, D 3 (R21, R160). -/
def readBand (b : Byte) : Option Band :=
  match b.toNat with
  | 0 => some .a
  | 1 => some .b
  | 2 => some .c
  | 3 => some .d
  | _ => none

/-- A gate code: RELEASE 0, HOLD 1 (R160). -/
def readGate (b : Byte) : Option Gate :=
  match b.toNat with
  | 0 => some .release
  | 1 => some .hold
  | _ => none

/-- A route class code (R160). -/
def readRouteClass (b : Byte) : Option RouteClass :=
  match b.toNat with
  | 0 => some .restock
  | 1 => some .outlet
  | 2 => some .repair
  | 3 => some .salvage
  | 4 => some .review
  | 5 => some .audit
  | _ => none

/-- A state code that Write Tote admits: UNUSED 0, OPEN 1 (R126, R160). -/
def readWriteState (b : Byte) : Option ToteState :=
  match b.toNat with
  | 0 => some .unused
  | 1 => some .opened
  | _ => none

/-- A scale step, a signed character: −2 is 0xFE and −1 is 0xFF (R78, R167). -/
def readStep (b : Byte) : Option ScaleStep :=
  match b.toInt with
  | -2 => some .minusTwo
  | -1 => some .minusOne
  | 0 => some .zero
  | 1 => some .plusOne
  | _ => none

/-- A category character that is at most 15, as a category (R8, R76, R78, R101). -/
def toCategory (b : Byte) : Fin 16 := Fin.ofNat 16 b.toNat

/-- R165, check 2, with the roles of R167: every role for kinds 1 to 5, STOCK for 6 to 24, BENCH for 25 to 27, INDUCT for 28 to 31. -/
def roleAllows (role : Role) (kind : Byte) : Bool :=
  let k := kind.toNat
  decide (k ≤ 5) ||
    match role with
    | .off => false
    | .bench => decide (25 ≤ k) && decide (k ≤ 27)
    | .induct => decide (28 ≤ k) && decide (k ≤ 31)
    | .stock => decide (6 ≤ k) && decide (k ≤ 24)

/-- The seven requests that mode control refuses in CONFIG (R168): kinds 25 to 31. -/
def needsLive (kind : Byte) : Bool := decide (25 ≤ kind.toNat) && decide (kind.toNat ≤ 31)

end Sys2Proof.Machine
end

