-- ==== Sys2Proof/Machine/Flags.lean ====
section
/-! DEFINITION. The flags: notice sets and ATTN lines (R148 to R150), line status flags (R161), the error capture (R153, R154). -/

namespace Sys2Proof.Machine

/-! Notices -/

/-- The causes from the highest priority to the lowest (R149). -/
def Cause.all : List Cause :=
  [.stopChange, .errorCaptured, .holdLapsed, .routeLapsed, .toteFull, .swapDone, .auditReady, .auditDispute, .quarantined,
   .caseLapsed, .dayClosed, .lineFault]

/-- The priority number of a cause (R149). -/
def Cause.priority : Cause → Nat
  | .stopChange => 1
  | .errorCaptured => 2
  | .holdLapsed => 3
  | .routeLapsed => 4
  | .toteFull => 5
  | .swapDone => 6
  | .auditReady => 7
  | .auditDispute => 8
  | .quarantined => 9
  | .caseLapsed => 10
  | .dayClosed => 11
  | .lineFault => 12

/-- The detail of a pending cause; none when the cause is not pending (R148). -/
def PortState.notice? (x : PortState) (c : Cause) : Option Detail := x.notices.find? c.priority

/-- A cause is in the enable set: bit 0 stands for priority 1 (R148, R167). -/
def PortState.enables (x : PortState) (c : Cause) : Bool := x.enabled.getLsbD (c.priority - 1)

/-- A cause is both pending and enabled. -/
def PortState.calls (x : PortState) (c : Cause) : Bool := (x.notice? c).isSome && x.enables c

/-- The pending causes, in the order of their priorities. -/
def PortState.pendingCauses (x : PortState) : List Cause := Cause.all.filter fun c => (x.notice? c).isSome

/-- The level R150 gives the ATTN line: asserted exactly when a cause is both pending and enabled. -/
def PortState.attnLevel (x : PortState) : Bool := Cause.all.any fun c => x.calls c

/-- Set the ATTN line by R150. -/
def PortState.refreshAttn (x : PortState) : PortState := { x with attn := x.attnLevel }

/-- A raise to this port: the cause pending with the latest detail, whatever the enable set (R149). -/
def PortState.raised (x : PortState) (c : Cause) (d : Detail) : PortState :=
  PortState.refreshAttn { x with notices := x.notices.insert c.priority d }

/-- Clear a pending cause and discard its detail (R151). -/
def PortState.cleared (x : PortState) (c : Cause) : PortState :=
  PortState.refreshAttn { x with notices := x.notices.erase c.priority }

/-- Raise a cause to every port that a condition selects, in one event (R149). -/
def State.raise (s : State) (who : Port → PortState → Bool) (c : Cause) (d : Detail) : State :=
  s.updPorts fun p x => if who p x then x.raised c d else x

/-- The port conditions of R149's table. -/
def toStock (_ : Port) (x : PortState) : Bool := decide (x.role = .stock)
def toInduct (_ : Port) (x : PortState) : Bool := decide (x.role = .induct)
def toInductAndStock (_ : Port) (x : PortState) : Bool := decide (x.role = .induct) || decide (x.role = .stock)
def toPort (q : Port) (p : Port) (_ : PortState) : Bool := decide (p = q)
def toPortAndStock (q : Port) (p : Port) (x : PortState) : Bool := decide (p = q) || decide (x.role = .stock)

/-- AUDIT_READY to every port in the audit-capable set as it stands (R93). -/
def State.raiseAuditReady (s : State) (t : Tag) : State := s.raise (fun p _ => s.auditCapable p) .auditReady (.tag t)

/-! Error capture -/

def KindSet.has (k : KindSet) : ErrorKind → Bool
  | .unmappedRoute => k.unmappedRoute
  | .wrongTote => k.wrongTote
  | .latePlacement => k.latePlacement
  | .holdLapsed => k.holdLapsed
  | .portOverrun => k.portOverrun

def KindSet.insert (k : KindSet) : ErrorKind → KindSet
  | .unmappedRoute => { k with unmappedRoute := true }
  | .wrongTote => { k with wrongTote := true }
  | .latePlacement => { k with latePlacement := true }
  | .holdLapsed => { k with holdLapsed := true }
  | .portOverrun => { k with portOverrun := true }

/-- A capture (R154). Unlocked: the record is filled and locked, the kind joins the summary, ERROR_CAPTURED is raised. Locked:
the kind joins the summary, MULTIPLE is set, and ERROR_CAPTURED is raised when EVERY_ERROR is on. -/
def State.capture (s : State) (kind : ErrorKind) (port : Port) (tag : Option Tag) (tote : Option ToteNo) : State :=
  if s.errors.locked then
    let s' := s.withErrors { s.errors with summary := s.errors.summary.insert kind, multiple := true }
    if s.settings.everyError then s'.raise toStock .errorCaptured (.error kind) else s'
  else
    (s.withErrors
      { s.errors with
          record := some { kind := kind, port := port, tag := tag, tote := tote, second := s.secondCount },
          locked := true, summary := s.errors.summary.insert kind }).raise toStock .errorCaptured (.error kind)

/-! Line faults -/

/-- A receive fault on a port (R161): its flag is set, a frame being assembled is discarded, LINE_FAULT is raised to the port. -/
def State.lineFault (s : State) (p : Port) (flag : LineStatus → LineStatus) : State :=
  s.updPort p fun x => PortState.raised { x with assembler := .idle, line := flag x.line } .lineFault .none

def LineStatus.setParity (l : LineStatus) : LineStatus := { l with parity := true }
def LineStatus.setFraming (l : LineStatus) : LineStatus := { l with framing := true }
def LineStatus.setCheck (l : LineStatus) : LineStatus := { l with check := true }
def LineStatus.setLength (l : LineStatus) : LineStatus := { l with length := true }
def LineStatus.setGap (l : LineStatus) : LineStatus := { l with gap := true }
def LineStatus.setOverrun (l : LineStatus) : LineStatus := { l with overrun := true }

/-- The receiver takes nothing in: an OFF port's receiver is not watched (R157), and after a break the assembler stays idle until
the line has returned to mark (R166). -/
def PortState.deaf (x : PortState) : Bool := decide (x.role = .off) || x.inBreak

end Sys2Proof.Machine
end

