-- ==== Sys2Proof/Machine/Ops.lean ====
section
/-! DEFINITION. The operations that several commands share: leaving the case table, ending holds and reservations, removing a tag from a
manifest, the departure of a tote, and the free orders. -/

namespace Sys2Proof.Machine

/-! The sweep's set -/

/-- The sweep goes on with a set of cases not yet visited. When the set is empty the sweep is inactive and DAY_CLOSED is raised
with the day number to every STOCK port (R143). -/
def State.sweepGoesOn (s : State) (set : List Tag) : State :=
  if set = [] then
    (s.withCalendar { s.calendar with sweep := none }).raise toStock .dayClosed (.day s.today)
  else s.withCalendar { s.calendar with sweep := some set }

/-- A case visited, or gone from the table before its visit, is removed from the set not yet visited (R143, log entry 6). -/
def State.leaveSweep (s : State) (t : Tag) : State :=
  match s.calendar.sweep with
  | none => s
  | some set => if t ∈ set then s.sweepGoesOn (set.filter fun u => u ≠ t) else s

/-- A case leaves the table (R1, R143). -/
def State.removeCase (s : State) (t : Tag) : State :=
  (s.withCases (s.cases.erase t.toNat)).leaveSweep t

/-! Totes -/

/-- A tote takes a reservation: OPEN with filled plus reserved below its capacity (R105, R123). -/
def Tote.available (k : Tote) : Bool := decide (k.state = .opened) && decide (k.filled + k.reserved < k.capacity)

/-- DRAINING with reserved 0 and a non-empty manifest (R133). -/
def Tote.waits (k : Tote) : Bool := decide (k.state = .draining) && decide (k.reserved = 0) && !k.manifest.isEmpty

/-- The cases of departed tags become DEPARTED (R132). -/
def markDeparted (tags : List Tag) (m : Store Case) : Store Case :=
  tags.foldl (fun m t => match m.find? t.toNat with
    | some c => m.insert t.toNat { c with location := .departed }
    | none => m) m

/-- The tote as a departure leaves it: OPEN, with filled 0 and an empty manifest (R132). -/
def Tote.emptied (k : Tote) : Tote := { k with state := .opened, filled := 0, manifest := [] }

/-- SWAP_DONE with the tote as its detail, to every INDUCT and STOCK port (R132). -/
def State.raiseSwapDone (s : State) (t : ToteNo) : State := s.raise toInductAndStock .swapDone (.tote t)

/-- R132, the second way: the record joins the tail of the outbound queue, its cases become DEPARTED, the tote is OPEN and empty. -/
def State.depart (s : State) (t : ToteNo) : State :=
  let k := s.tote t
  let s1 := s.withOutbound (s.outbound ++ [{ tote := t, second := s.secondCount, tags := k.manifest }])
  let s2 := s1.withCases (markDeparted k.manifest s1.cases)
  (s2.setTote t k.emptied).raiseSwapDone t

/-- R132: a drain completes in one of three ways. -/
def State.completeDrain (s : State) (t : ToteNo) : State :=
  let k := s.tote t
  if k.filled = 0 then (s.setTote t { k with state := .opened }).raiseSwapDone t
  else if s.outbound.length < Config.maxRecords then s.depart t
  else s

/-- The drain of a DRAINING tote whose reserved count is 0 completes (R131). -/
def State.drainIfDone (s : State) (t : ToteNo) : State :=
  let k := s.tote t
  if k.state = .draining ∧ k.reserved = 0 then s.completeDrain t else s

/-- The lowest-numbered waiting tote (R136). -/
def State.firstWaiting (s : State) : Option ToteNo :=
  (s.totes.entries.find? fun e => e.2.waits).map fun e => BitVec.ofNat 8 e.1

/-- A free place in the outbound queue is handed to the lowest-numbered waiting tote, which departs (R136). -/
def State.handPlace (s : State) : State :=
  if s.outbound.length < Config.maxRecords then
    match s.firstWaiting with
    | some t => s.depart t
    | none => s
  else s

/-- The tote after one reservation into it has been cancelled or has lapsed (R113, R116). -/
def Tote.placeBack (k : Tote) : Tote := { k with reserved := k.reserved - 1 }

/-- The tote after a tag has left its manifest, by what its state was (R125). -/
def Tote.without (k : Tote) (tag : Tag) : Tote :=
  let k' := { k with filled := k.filled - 1, manifest := k.manifest.erase tag }
  match k.state with
  | .full => { k' with state := .opened }
  | .draining => if k.reserved = 0 ∧ k'.manifest = [] then { k' with state := .opened } else k'
  | _ => k'

/-- An audit claim or a Force Disposition removes a tag from a manifest. A waiting tote that this empties ends its drain at
once, with SWAP_DONE and no record (R125). -/
def State.removeFromManifest (s : State) (t : ToteNo) (tag : Tag) : State :=
  let k := s.tote t
  let s' := s.setTote t (k.without tag)
  if k.state = .draining ∧ (k.without tag).state = .opened then s'.raiseSwapDone t else s'

/-- The tag leaves the manifest of the tote it is in, if it is in one (R22, R32). -/
def State.leaveTote (s : State) (loc : Location) (tag : Tag) : State :=
  match loc with
  | .inTote t => s.removeFromManifest t tag
  | _ => s

/-! Holds -/

/-- The case as the end of a hold without submission leaves it: ON_BENCH becomes EXPECTED, ON_AUDIT becomes AUDIT_WAIT with
location NONE (R34, R35, R41). -/
def Case.returned (c : Case) : Case :=
  match c.state with
  | .onBench => { c with holder := none, state := .expected }
  | .onAudit => { c with holder := none, state := .auditWait, location := .none }
  | _ => { c with holder := none }

/-- Each entry into AUDIT_WAIT raises AUDIT_READY (R93). -/
def State.announceReturn (s : State) (t : Tag) (before : CaseState) : State :=
  if before = .onAudit then s.raiseAuditReady t else s

/-- A hold ends without submission or lapse (R34, R41). -/
def State.releaseHold (s : State) (t : Tag) : State :=
  match s.case? t with
  | some c => (s.setCase t c.returned).announceReturn t c.state
  | none => s

/-- A hold lapses: the case returns as from a release, the last lapsed holder is recorded, HOLD_LAPSED is captured and raised to
the holding port and every STOCK port (R35, R36). -/
def State.lapseHold (s : State) (t : Tag) (c : Case) (h : Hold) : State :=
  let s1 := (s.setCase t { c.returned with lastLapsedHolder := some h.port }).announceReturn t c.state
  let s2 := s1.capture .holdLapsed h.port (some t) none
  s2.raise (toPortAndStock h.port) .holdLapsed (.tag t)

/-- The hold of a case lapses if the last second event reached its deadline and the lapse has not been taken (R35, log entry 4). -/
def State.takeHoldLapse (s : State) (t : Tag) : State :=
  match s.case? t with
  | some c => match c.holder with
    | some h => if h.due then s.lapseHold t c h else s
    | none => s
  | none => s

/-! Reservations -/

/-- The end of a reservation by cancel or lapse: GRADED with location NONE (R113, R116). -/
def Case.unreserved (c : Case) : Case := { c with reservation := none, state := .graded, location := .none }

/-- A reservation lapses (R116). -/
def State.lapseDwell (s : State) (t : Tag) (c : Case) (r : Reservation) : State :=
  let s1 := s.setTote r.tote (s.tote r.tote).placeBack
  let s2 := s1.setCase t { c.unreserved with lastLapsedTote := some r.tote }
  let s3 := s2.raise toInduct .routeLapsed (.tag t)
  s3.drainIfDone r.tote

/-- The reservation of a case lapses if the last second event reached its deadline, STOP is not asserted, and the lapse has not
been taken (R116, log entry 4). -/
def State.takeDwellLapse (s : State) (t : Tag) : State :=
  match s.case? t with
  | some c => match c.reservation with
    | some r => if r.due ∧ s.stopped = false then s.lapseDwell t c r else s
    | none => s
  | none => s

/-! Free orders -/

/-- One element of a list, by its place, and the others. -/
def pickAt {α : Type} : List α → Nat → Option (α × List α)
  | [], _ => none
  | a :: l, 0 => some (a, l)
  | a :: l, i + 1 => (pickAt l i).map fun x => (x.1, a :: x.2)

/-- Take an event at each of several cases in an order that nothing constrains: each next case is a free value's choice among
those left (log entry 5). The first argument is the number of cases. -/
def inFreeOrder (act : Tag → State → State) : Nat → List Tag → State → State
  | 0, _, s => s
  | _ + 1, [], s => s
  | _ + 1, [t], s => act t s
  | n + 1, l, s =>
    match pickAt l (Config.freeChoice s.freeCount % l.length) with
    | some (t, rest) => inFreeOrder act n rest (act t (s.withFreeCount (s.freeCount + 1)))
    | none => s

/-- The tags of the cases that a condition selects, in key order. -/
def State.tagsWhere (s : State) (f : Case → Bool) : List Tag :=
  (s.cases.entries.filter fun e => f e.2).map fun e => BitVec.ofNat 32 e.1

/-- Every hold of a port is released (R41), in a free order. -/
def State.releaseHoldsOf (s : State) (p : Port) : State :=
  let tags := s.tagsWhere fun c => decide (c.holder.map (·.port) = some p)
  inFreeOrder (fun t s => s.releaseHold t) tags.length tags s

/-- A case whose hold or reservation is due to lapse and has not lapsed yet. -/
def Case.lapseDue (c : Case) : Bool :=
  (c.holder.map (·.due)).getD false || (c.reservation.map (·.due)).getD false

/-- The lapses of the last second event that no command has taken are taken, in a free order (R35, R116, R141, log entry 4). -/
def State.settleLapses (s : State) : State :=
  let tags := s.tagsWhere Case.lapseDue
  inFreeOrder (fun t s => (s.takeHoldLapse t).takeDwellLapse t) tags.length tags s

end Sys2Proof.Machine
end

