-- ==== Sys2Proof/Machine/ReturnCases.lean ====
section
/-! DEFINITION. Return Cases: what the case table answers to the requests of chapter 1, and the three fields that carry the outcome of
grading (R8 to R23). -/

namespace Sys2Proof.Machine

/-- An answer that carries only its status. -/
def Answer.bare (st : Status) : Answer := { status := st, data := .none }

/-- An audit is unresolved: its selected flag is set and no outcome is recorded (R5). -/
def Case.auditUnresolved (c : Case) : Bool :=
  match c.audit with
  | some a => a.selected && a.resolution.isNone
  | none => false

/-- The route class of a final band (R14). -/
def RouteClass.ofBand : Band → RouteClass
  | .a => .restock
  | .b => .outlet
  | .c => .repair
  | .d => .salvage
  | .q => .review

/-- The route class a GRADED case calls for (R14); none while the case has no final band. -/
def Case.classCalledFor (c : Case) : Option RouteClass :=
  if c.auditUnresolved then some .audit else c.finalBand.map .ofBand

/-- The refund gate (R15): HOLD when the final band is Q, the first grade is LATE, or the audit is unresolved. -/
def gateOf (finalBand : Band) (late unresolved : Bool) : Gate :=
  if finalBand = .q ∨ late ∨ unresolved then .hold else .release

/-- A case as Expect Return opens it (R8). -/
def Case.opened (a : Announcement) (today : Nat) : Case :=
  { state := .expected, category := toCategory a.category, sku := a.sku,
    declared := { size := a.size.setWidth 6, colour := a.colour, label := a.label, material := a.material.setWidth 6,
                  fitted := a.fitted },
    deliveryDay := a.delivery.toNat, openedDay := today, override := false, location := .none,
    holder := none, lastLapsedHolder := none, firstGrade := none, audit := none, finalBand := none, refundGate := none,
    reservation := none, lastLapsedTote := none, routeClass := none }

/-- R8, check 1. -/
def announcementBad (a : Announcement) : Bool :=
  decide (a.tag = 0) || decide (15 < a.category.toNat) || decide (63 < a.size.toNat) || decide (63 < a.material.toNat)

/-- Expect Return (R8, R9). -/
def takeExpectReturn (a : Announcement) (s : State) : State × Answer :=
  if announcementBad a then (s, .bare .badValue)
  else match s.case? a.tag with
    | some c => (s, { status := .duplicate, data := .caseState c.state })
    | none =>
      if Config.maxCases ≤ s.cases.size then (s, .bare .tableFull)
      else (s.setCase a.tag (.opened a s.today), .bare .ok)

/-- Cancel Return (R10). -/
def takeCancelReturn (t : Tag) (s : State) : State × Answer :=
  match s.case? t with
  | none => (s, .bare .unknownTag)
  | some c =>
    if c.state = .expected ∨ c.state = .lapsed then (s.removeCase t, .bare .ok)
    else (s, { status := .wrongState, data := .caseState c.state })

/-- Revive Case (R12). -/
def takeReviveCase (t : Tag) (s : State) : State × Answer :=
  match s.case? t with
  | none => (s, .bare .unknownTag)
  | some c =>
    if c.state = .lapsed then (s.setCase t { c with state := .expected, openedDay := s.today }, .bare .ok)
    else (s, { status := .wrongState, data := .caseState c.state })

/-- The record as a reply shows it, without the model's own marks. -/
def Case.shown (c : Case) : Case :=
  { c with
      holder := c.holder.map fun h => { h with due := false },
      reservation := c.reservation.map fun r => { r with due := false } }

/-- The blind view: both grade records, the final band and the refund gate marked absent (R17). The audit part keeps its
selected flag; it has no audit grade, since the view applies only while the audit is unresolved. -/
def Case.blind (c : Case) : Case :=
  { c with firstGrade := none, audit := c.audit.map fun a => { a with resolution := none }, finalBand := none, refundGate := none }

/-- The view a port's Fetch Case reply carries (R16, R17). -/
def Case.viewFor (role : Role) (c : Case) : Case :=
  if role = .bench ∧ c.auditUnresolved then c.shown.blind else c.shown

/-- Fetch Case (R16 to R18). -/
def takeFetchCase (p : Port) (t : Tag) (s : State) : State × Answer :=
  match s.case? t with
  | none => (s, .bare .unknownTag)
  | some c => (s, { status := .ok, data := .caseRecord t (c.viewFor (s.port p).role) })

/-- Close Case (R19). -/
def takeCloseCase (t : Tag) (s : State) : State × Answer :=
  match s.case? t with
  | none => (s, .bare .unknownTag)
  | some c =>
    if c.state = .lapsed ∨ (c.state = .placed ∧ c.location = .departed) then (s.removeCase t, .bare .ok)
    else (s, { status := .wrongState, data := .stateLocation c.state c.location })

/-- A case whose disposition has been forced (R21). -/
def Case.forced (c : Case) (bd : Band) (g : Gate) : Case :=
  { c with finalBand := some bd, refundGate := some g, override := true, state := .graded, location := .none }

/-- Force Disposition (R21, R22). -/
def takeForceDisposition (t : Tag) (band gate : Byte) (s : State) : State × Answer :=
  match readBand band, readGate gate with
  | some bd, some g => match s.case? t with
    | none => (s, .bare .unknownTag)
    | some c =>
      if (c.state = .graded ∨ c.state = .placed) ∧ c.finalBand = some .q then
        ((s.setCase t (c.forced bd g)).leaveTote c.location t, .bare .ok)
      else (s, { status := .wrongState, data := .stateBand c.state c.finalBand })
  | _, _ => (s, .bare .badValue)

end Sys2Proof.Machine
end

