-- ==== Sys2Proof/Machine/Scoring.lean ====
section
/-! DEFINITION. Condition scoring: the arithmetic of a computation and the checks of attributes, wear and lateness (R51 to R63), the audit
sampler's step (R87) and the agreement rule (R96). -/

namespace Sys2Proof.Machine

/-- The running sums of a computation and the two flags they set (R52, R55, R56). -/
structure Tally where
  deduction   : Nat
  wear        : Nat
  ceilingFlag : Bool
  clampedFlag : Bool
  deriving DecidableEq, Repr

/-- The sums at the beginning of every computation (R55, R56). -/
def Tally.zero : Tally := { deduction := 0, wear := 0, ceilingFlag := false, clampedFlag := false }

/-- The severity after the clamp (R52). -/
def clampSeverity (s : BitVec 4) : Nat := min 7 s.toNat

/-- The scaled product of a product and a scale step (R54). -/
def scaled (k : ScaleStep) (p : Nat) : Nat :=
  match k with
  | .minusTwo => p / 4
  | .minusOne => p / 2
  | .zero => p
  | .plusOne => 2 * p

/-- The scaled product of an observation: weight by severity, scaled (R53, R54). -/
def contribution (k : ScaleStep) (row : Store WeightEntry) (o : Observation) : Nat :=
  scaled k ((weightIn row o.defect.toNat).weight * clampSeverity o.severity)

/-- One observation added to the sums (R52, R55, R56). A severity of 0 is skipped. -/
def Tally.observe (k : ScaleStep) (row : Store WeightEntry) (y : Tally) (o : Observation) : Tally :=
  if o.severity = 0 then y
  else
    let p := contribution k row o
    { deduction := min Config.ceiling (y.deduction + p),
      wear := if (weightIn row o.defect.toNat).wear then min Config.ceiling (y.wear + p) else y.wear,
      ceilingFlag := y.ceilingFlag || decide (Config.ceiling < y.deduction + p),
      clampedFlag := y.clampedFlag || decide (7 < o.severity.toNat) }

/-- The sums of a whole list, in list order (R51). -/
def tallyOf (k : ScaleStep) (row : Store WeightEntry) (obs : List Observation) : Tally :=
  obs.foldl (Tally.observe k row) .zero

/-- The deduction in whole points, halves rounded up (R57). -/
def pointsOf (deduction : Nat) : Nat := (deduction + 8) / 16

/-- The condition score (R58). -/
def scoreOf (points : Nat) : Nat := if points ≤ 1000 then 1000 - points else 0

/-- The score band (R59). -/
def bandOf (r : CategoryRecord) (score : Nat) : Band :=
  if r.tA ≤ score then .a else if r.tB ≤ score then .b else if r.tC ≤ score then .c else .d

/-- The mismatch set (R60). -/
def mismatchOf (mask : AttrSet) (observed declared : Attributes) : AttrSet :=
  { size := mask.size && observed.size != declared.size,
    colour := mask.colour && observed.colour != declared.colour,
    label := mask.label && observed.label != declared.label,
    material := mask.material && observed.material != declared.material,
    fitted := mask.fitted && observed.fitted != declared.fitted }

def noMismatch (m : AttrSet) : Bool := !(m.size || m.colour || m.label || m.material || m.fitted)

/-- The WEAR flag (R61). -/
def wearFlagOf (limit wear : Nat) : Bool := decide (0 < limit) && decide (limit ≤ wear)

/-- The LATE flag of a first grade (R63). -/
def lateFlagOf (window today delivery : Nat) : Bool :=
  decide (0 < window) && decide (delivery ≤ today) && decide (window < today - delivery)

/-- The grade record of a computation (R4, R52 to R62), with its LATE flag. -/
def Computation.grade (k : Computation) (late : Bool) : GradeRecord :=
  let y := tallyOf k.record.step k.weights k.submission.observations
  let points := pointsOf y.deduction
  let mis := mismatchOf k.record.mask k.submission.observed k.declared
  let worn := wearFlagOf k.record.wearLimit y.wear
  { grader := k.submission.grader, deduction := y.deduction, wear := y.wear, score := scoreOf points,
    band := if !noMismatch mis || worn then .q else bandOf k.record (scoreOf points),
    mismatch := mis, ceilingFlag := y.ceilingFlag, floorFlag := decide (1000 < points), clampedFlag := y.clampedFlag,
    wearFlag := worn, lateFlag := late }

/-- One step of the sampler (R87). -/
def samplerStep (x : BitVec 16) : BitVec 16 :=
  let bit := ((x.getLsbD 15 ^^ x.getLsbD 13) ^^ x.getLsbD 12) ^^ x.getLsbD 10
  BitVec.ofNat 16 (2 * x.toNat + bit.toNat)

/-- Selection by the low twelve bits of the sampler's new state (R88). -/
def selects (sampler : BitVec 16) (rate : Nat) : Bool := decide (sampler.toNat % 4096 < rate)

/-- The agreement rule (R96). -/
def outcomeOf (first second : GradeRecord) (tolerance : Nat) : AuditOutcome :=
  if first.band = second.band ∧ first.score - second.score ≤ tolerance ∧ second.score - first.score ≤ tolerance then .agree
  else .dispute

end Sys2Proof.Machine
end

