-- ==== Sys2Proof/Machine/Grading.lean ====
section
/-! DEFINITION. The grading queue and the engine: the start of a computation and the two completions (R44 to R50, R64 to R69). -/

namespace Sys2Proof.Machine

/-- The IDLE engine takes the oldest submission and reads the case's category and declared attributes, the category record and the
category's weights (R46). A submission whose case is not in the table (which no run reaches) is left where it is. -/
def State.startComputation (s : State) : State :=
  match s.engine, s.gradingQueue with
  | none, sub :: rest =>
    match s.case? sub.tag with
    | some c =>
      (s.withGradingQueue rest).withEngine
        (some { submission := sub, category := c.category, declared := c.declared, record := s.category c.category,
                weights := s.weightRow c.category })
    | none => s
  | _, _ => s

/-- A submission from this port is in the grading queue or in the engine (R38, R39). -/
def State.portHasSubmission (s : State) (p : Port) : Bool := s.submissions.any fun x => decide (x.grader = p)

/-- A submission for a case of this category is in the grading queue or in the engine (R81). -/
def State.categoryInUse (s : State) (c : Nat) : Bool :=
  s.submissions.any fun x => match s.case? x.tag with
    | some k => decide (k.category.val = c)
    | none => false

/-- The completion's reply, sent when the Submit Grade is still in the grader port's service slot (R68). -/
def State.replyGrade (s : State) (p : Port) (r : GradeResult) : State :=
  s.updPort p fun x => match x.service with
    | some { num := n, request := .submitGrade t a o, reply := none } =>
      if t = r.tag then
        { x with service := some { num := n, request := .submitGrade t a o,
                                   reply := some { kind := 26, num := n, status := .ok, data := .graded r } } }
      else x
    | _ => x

/-- The case after its first grade (R65): the record, the audit part, the final band, the refund gate, GRADED. -/
def Case.firstGraded (c : Case) (g : GradeRecord) (selected : Bool) : Case :=
  { c with firstGrade := some g, audit := some { selected := selected, resolution := none }, finalBand := some g.band,
           refundGate := some (gateOf g.band g.lateFlag selected), state := .graded }

/-- The final band after an audit (R13). -/
def finalAfterAudit (before : Option Band) (second : GradeRecord) : AuditOutcome → Band
  | .agree => before.getD second.band
  | .dispute => second.band

/-- The case after its audit grade (R66). -/
def Case.auditGraded (c : Case) (first second : GradeRecord) (o : AuditOutcome) : Case :=
  let bd := finalAfterAudit c.finalBand second o
  { c with audit := some { selected := (c.audit.map (·.selected)).getD true,
                           resolution := some { auditor := second.grader, grade := second, outcome := o } },
           finalBand := some bd, refundGate := some (gateOf bd first.lateFlag false), state := .graded }

/-- QUARANTINED with the tag to every STOCK port, when the final band is Q (R65, R66). -/
def State.raiseQuarantine (s : State) (t : Tag) (finalBand : Option Band) : State :=
  if finalBand = some .q then s.raise toStock .quarantined (.tag t) else s

/-- The sampler is consulted at completion of a first grade of band A or B (R64). -/
def consultsSampler (bd : Band) : Bool := decide (bd = .a) || decide (bd = .b)

/-- Completion of the first grade in the engine (R64, R65), the reply (R68), and the start of the next computation (R69). -/
def State.completeFirst (s : State) (k : Computation) : State :=
  let t := k.submission.tag
  match s.case? t with
  | none => s
  | some c =>
    let g := k.grade (lateFlagOf k.record.window s.today c.deliveryDay)
    let sampler := if consultsSampler g.band then samplerStep s.sampler else s.sampler
    let selected := consultsSampler g.band && selects sampler k.record.rate
    let c' := c.firstGraded g selected
    let s1 := ((s.withSampler sampler).setCase t c').raiseQuarantine t c'.finalBand
    let s2 := s1.replyGrade k.submission.grader
      { tag := t, kind := .first, grade := g, selected := selected, outcome := none, finalBand := c'.finalBand,
        cls := c'.classCalledFor }
    (s2.withEngine none).startComputation

/-- Completion of the audit grade in the engine (R66, R96), the reply (R68), and the start of the next computation (R69). -/
def State.completeAudit (s : State) (k : Computation) : State :=
  let t := k.submission.tag
  match s.case? t with
  | none => s
  | some c => match c.firstGrade with
    | none => s
    | some first =>
      let g := k.grade false
      let o := outcomeOf first g k.record.tolerance
      let c' := c.auditGraded first g o
      let s1 := s.setCase t c'
      let s2 := if o = .dispute then s1.raise toStock .auditDispute (.tag t) else s1
      let s3 := s2.raiseQuarantine t c'.finalBand
      let s4 := s3.replyGrade k.submission.grader
        { tag := t, kind := .audit, grade := g, selected := true, outcome := some o, finalBand := c'.finalBand,
          cls := c'.classCalledFor }
      (s4.withEngine none).startComputation

end Sys2Proof.Machine
end

