-- ==== Sys2Proof/Machine/BenchHolds.lean ====
section
/-! DEFINITION. Bench Holds: Claim Case, Release Case and Submit Grade at the case table (R26 to R39). -/

namespace Sys2Proof.Machine

/-- A hold set now by a port (R26). -/
def State.newHold (s : State) (p : Port) : Hold :=
  { port := p, deadline := satAdd s.secondCount s.settings.holdLimit, due := false }

/-- The case as a claim taken by a port leaves it: held, without a last lapsed holder (R28, R32). -/
def Case.heldBy (c : Case) (h : Hold) (st : CaseState) : Case :=
  { c with holder := some h, lastLapsedHolder := none, state := st }

/-- The reply fields of a claim (R28, R29, R32). -/
def claimReply (st : Status) (c : Case) (h : Hold) : Answer :=
  { status := st, data := .claimed c.category c.sku c.declared h.deadline }

/-- A claim on an EXPECTED case (R28). -/
def claimExpected (p : Port) (t : Tag) (c : Case) (s : State) : State × Answer :=
  (s.setCase t (c.heldBy (s.newHold p) .onBench), claimReply .ok c (s.newHold p))

/-- A claim on a held case: a renewal by the holder (R29), refused for any other port (R30). -/
def claimHeld (p : Port) (t : Tag) (c : Case) (s : State) : State × Answer :=
  match c.holder with
  | some h =>
    if h.port = p then (s.setCase t { c with holder := some (s.newHold p) }, claimReply .renewed c (s.newHold p))
    else (s, { status := .heldElsewhere, data := .holderPort h.port })
  | none => (s, { status := .wrongState, data := .caseState c.state })

/-- An audit claim: the checks of R31, then R32. -/
def claimAudit (p : Port) (t : Tag) (c : Case) (s : State) : State × Answer :=
  if s.auditCapable p = false then (s, .bare .notAuditor)
  else if c.firstGrade.map (·.grader) = some p then (s, .bare .sameGrader)
  else
    ((s.setCase t { c.heldBy (s.newHold p) .onAudit with location := .none }).leaveTote c.location t,
      claimReply .ok c (s.newHold p))

/-- Claim Case (R27). -/
def takeClaimCase (p : Port) (t : Tag) (s : State) : State × Answer :=
  match s.case? t with
  | none => (s, .bare .unknownTag)
  | some c => match c.state with
    | .expected => claimExpected p t c s
    | .onBench => claimHeld p t c s
    | .onAudit => claimHeld p t c s
    | .auditWait => claimAudit p t c s
    | .lapsed => (s, .bare .caseLapsed)
    | .grading => (s, { status := .wrongState, data := .caseState .grading })
    | .graded => (s, { status := .wrongState, data := .caseState .graded })
    | .routed => (s, { status := .wrongState, data := .caseState .routed })
    | .placed => (s, { status := .wrongState, data := .caseState .placed })

/-- The case is held by a port (R34, R38). -/
def Case.isHeldBy (c : Case) (p : Port) : Bool := decide (c.holder.map (·.port) = some p)

/-- The state and, when the case has a holder, the holding port (R34, R38). -/
def Case.holderReply (c : Case) (st : Status) : Answer :=
  { status := st, data := .stateHolder c.state (c.holder.map (·.port)) }

/-- Release Case (R34). -/
def takeReleaseCase (p : Port) (t : Tag) (s : State) : State × Answer :=
  match s.case? t with
  | none => (s, .bare .unknownTag)
  | some c => if c.isHeldBy p then (s.releaseHold t, .bare .ok) else (s, c.holderReply .notHolder)

/-- FIRST from ON_BENCH, AUDIT from ON_AUDIT (R44). -/
def gradeKindOf (st : CaseState) : GradeKind := if st = .onAudit then .audit else .first

/-- A submission joins the tail of the grading queue as the case's hold ends (R38, R45); an IDLE engine takes it (R46). -/
def State.enqueue (s : State) (p : Port) (t : Tag) (c : Case) (observed : Attributes) (obs : List Observation) : State :=
  ((s.setCase t { c with holder := none, state := .grading }).withGradingQueue
    (s.gradingQueue ++
      [{ tag := t, grader := p, kind := gradeKindOf c.state, observed := observed, observations := obs }])).startComputation

/-- Submit Grade at the case table (R38, R39). A taken request has no answer yet: its reply comes at completion (R68). -/
def takeSubmitGrade (p : Port) (t : Tag) (observed : Attributes) (obs : List Observation) (s : State) :
    State × Option Answer :=
  match s.case? t with
  | none => (s, some (.bare .unknownTag))
  | some c =>
    if c.isHeldBy p then
      if s.portHasSubmission p then (s, some (.bare .busy))
      else (s.enqueue p t c observed obs, none)
    else if c.lastLapsedHolder = some p then (s, some (c.holderReply .lapsedHold))
    else (s, some (c.holderReply .notHolder))

end Sys2Proof.Machine
end

