-- ==== Sys2Proof/Machine/CalendarOps.lean ====
section
/-! DEFINITION. Calendar and Timers: the second event, the midnight rollover, the sweep's visits, Set Clock and Read Clock (R139 to R147). -/

namespace Sys2Proof.Machine

/-- The time of day stands at 23:59:59, so that the next second event is the midnight rollover (R142). -/
def Calendar.beforeMidnight (c : Calendar) : Bool :=
  decide (23 ≤ c.hour) && decide (59 ≤ c.minute) && decide (59 ≤ c.second)

/-- The calendar after a second event (R140), with the day number and weekday of a rollover (R142). -/
def Calendar.advance (c : Calendar) : Calendar :=
  { second := if 59 ≤ c.second then 0 else c.second + 1,
    minute := if 59 ≤ c.second then (if 59 ≤ c.minute then 0 else c.minute + 1) else c.minute,
    hour := if 59 ≤ c.second ∧ 59 ≤ c.minute then (if 23 ≤ c.hour then 0 else c.hour + 1) else c.hour,
    weekday := if c.beforeMidnight then (if 6 ≤ c.weekday then 0 else c.weekday + 1) else c.weekday,
    day := if c.beforeMidnight then min Config.maxDay (c.day + 1) else c.day,
    secondCount := min Config.maxCount (c.secondCount + 1),
    sweep := c.sweep }

/-- A case whose hold deadline, or whose dwell deadline while STOP is not asserted, equals the new second count is due to
lapse (R35, R116, R141). -/
def Case.markDue (count : Nat) (stopped : Bool) (c : Case) : Case :=
  { c with
      holder := c.holder.map fun h => { h with due := decide (h.deadline = count) },
      reservation := c.reservation.map fun r => { r with due := decide (r.deadline = count) && !stopped } }

/-- One second event. Lapses of the one before that no command has taken come first (log entry 4). Then the calendar advances, the
holds and reservations whose deadline the new count has reached become due, and a midnight rollover starts, or starts again,
the sweep over every case present (R140 to R142). -/
def State.tick (s : State) : State :=
  let s1 := s.settleLapses
  let s2 := s1.withCalendar s1.calendar.advance
  let s3 := s2.withCases (s2.cases.mapValues (Case.markDue s2.secondCount s2.stopped))
  if s1.calendar.beforeMidnight then s3.sweepGoesOn s3.caseTags else s3

/-- The sweep's test of an EXPECTED case (R143). -/
def Case.overdue (c : Case) (today expectLimit : Nat) : Bool :=
  decide (c.state = .expected) && decide (c.openedDay ≤ today) && decide (expectLimit < today - c.openedDay)

/-- The sweep visits one case of its set (R143). -/
def State.visit (s : State) (t : Tag) : State :=
  match s.calendar.sweep with
  | none => s
  | some set =>
    if t ∈ set then
      let s1 := match s.case? t with
        | some c =>
          if c.overdue s.today s.settings.expectLimit then
            (s.setCase t { c with state := .lapsed }).raise toStock .caseLapsed (.tag t)
          else s
        | none => s
      s1.leaveSweep t
    else s

/-- R146, check 1. -/
def clockBad (w : ClockWrite) : Bool :=
  decide (59 < w.second.toNat) || decide (59 < w.minute.toNat) || decide (23 < w.hour.toNat) || decide (6 < w.weekday.toNat)

/-- Set Clock (R146). -/
def takeSetClock (w : ClockWrite) (s : State) : State × Answer :=
  if clockBad w then (s, .bare .badValue)
  else if s.calendar.sweep.isSome then (s, .bare .busy)
  else
    (s.withCalendar
      { s.calendar with second := w.second.toNat, minute := w.minute.toNat, hour := w.hour.toNat, weekday := w.weekday.toNat,
                        day := w.day.toNat },
      { status := .ok,
        data := .clockSet w.second.toNat w.minute.toNat w.hour.toNat w.weekday.toNat w.day.toNat s.secondCount })

/-- Read Clock (R147). -/
def takeReadClock (s : State) : State × Answer :=
  let c := s.calendar
  (s, { status := .ok, data := .clock c.second c.minute c.hour c.weekday c.day c.secondCount c.sweep.isSome })

end Sys2Proof.Machine
end

