-- ==== Sys2Proof/Machine/GradingTables.lean ====
section
/-! DEFINITION. Grading Tables: Write Weights and Write Category (R73 to R83), and Reseed Sampler (R86, R89). -/

namespace Sys2Proof.Machine

/-- The entries of a run written in order from a class onward (R77). -/
def writeRun : Nat → List WeightWrite → Store WeightEntry → Store WeightEntry
  | _, [], row => row
  | k, e :: rest, row => writeRun (k + 1) rest (Store.put .zero row k { weight := e.weight.toNat, wear := e.wear })

/-- R76, check 1. -/
def weightsBad (category first : Byte) (es : List WeightWrite) : Bool :=
  decide (15 < category.toNat) || decide (64 < first.toNat + es.length) || es.any fun e => decide (4095 < e.weight.toNat)

/-- Write Weights (R76, R77). -/
def takeWriteWeights (category first : Byte) (es : List WeightWrite) (s : State) : State × Answer :=
  if weightsBad category first es then (s, .bare .badValue)
  else if s.categoryInUse category.toNat then (s, .bare .tableInUse)
  else
    (s.withWeights (Store.put .empty s.weights category.toNat (writeRun first.toNat es (s.weightRow (toCategory category)))),
      .bare .ok)

/-- R78, check 3. -/
def thresholdsBad (w : CategoryWrite) : Bool :=
  decide (1000 < w.tA.toNat) || decide (1000 < w.tB.toNat) || decide (1000 < w.tC.toNat) || decide (w.tA.toNat < w.tB.toNat) ||
    decide (w.tB.toNat < w.tC.toNat)

/-- The record as stored, after the cutting down of R79. -/
def storedRecord (step : ScaleStep) (w : CategoryWrite) : CategoryRecord :=
  { step := step, tA := w.tA.toNat, tB := w.tB.toNat, tC := w.tC.toNat, window := w.window.toNat,
    rate := min 4096 w.rate.toNat, tolerance := min 1000 w.tolerance.toNat, mask := w.mask, wearLimit := w.wearLimit.toNat }

/-- Write Category (R78 to R80). -/
def takeWriteCategory (category : Byte) (w : CategoryWrite) (s : State) : State × Answer :=
  if 15 < category.toNat then (s, .bare .badValue)
  else match readStep w.step with
    | none => (s, .bare .badValue)
    | some step =>
      if thresholdsBad w then (s, .bare .badValue)
      else if s.categoryInUse category.toNat then (s, .bare .tableInUse)
      else
        (s.withCategories (Store.put .neutral s.categories category.toNat (storedRecord step w)),
          { status := if 4096 < w.rate.toNat ∨ 1000 < w.tolerance.toNat then .clamped else .ok,
            data := .categoryRecord (storedRecord step w) })

/-- Reseed Sampler (R89). -/
def takeReseedSampler (seed : BitVec 16) (s : State) : State × Answer :=
  if seed = 0 then
    (s.withSampler Config.samplerReset, { status := .replaced, data := .sampler Config.samplerReset })
  else (s.withSampler seed, { status := .ok, data := .sampler seed })

end Sys2Proof.Machine
end

