-- ==== Sys2Proof/Machine/Modes.lean ====
section
/-! DEFINITION. Floor modes and settings: Go Live, Go Config, Write Settings and Clear Floor (R168 to R171). -/

namespace Sys2Proof.Machine

/-- Go Live (R169). -/
def takeGoLive (s : State) : State × Answer := (s.withMode .live, { status := .ok, data := .mode .live })

/-- Go Config: BUSY while any submission is in the queue or the engine (R169). -/
def takeGoConfig (s : State) : State × Answer :=
  if s.submissions.isEmpty then (s.withMode .config, { status := .ok, data := .mode .config })
  else (s, .bare .busy)

/-- A value brought to the nearer end of its range (R170). -/
def intoRange (lo hi n : Nat) : Nat := max lo (min hi n)

/-- A port's role is BENCH. -/
def State.isBench (s : State) (p : Port) : Bool := decide ((s.port p).role = .bench)

/-- The ports whose role is BENCH, as marks: bit n for port Pn (R170). -/
def State.benchPorts (s : State) : BitVec 8 :=
  BitVec.ofBoolListLE [s.isBench 0, s.isBench 1, s.isBench 2, s.isBench 3, s.isBench 4, s.isBench 5, s.isBench 6, s.isBench 7]

/-- The settings as stored (R170). -/
def State.storedSettings (s : State) (w : SettingsWrite) : Settings :=
  { holdLimit := intoRange 30 3600 w.holdLimit.toNat, dwellLimit := intoRange 5 600 w.dwellLimit.toNat,
    expectLimit := intoRange 1 255 w.expectLimit.toNat, everyError := w.everyError,
    auditCapable := w.auditCapable &&& s.benchPorts }

/-- A value was brought into range or a mark was dropped (R170). -/
def Settings.cutDown (x : Settings) (w : SettingsWrite) : Bool :=
  decide (x.holdLimit ≠ w.holdLimit.toNat) || decide (x.dwellLimit ≠ w.dwellLimit.toNat) ||
    decide (x.expectLimit ≠ w.expectLimit.toNat) || decide (x.auditCapable ≠ w.auditCapable)

/-- Write Settings (R170). -/
def takeWriteSettings (w : SettingsWrite) (s : State) : State × Answer :=
  let x := s.storedSettings w
  (s.withSettings x, { status := if x.cutDown w then .clamped else .ok, data := .settings x })

/-- A tote after Clear Floor (R138). -/
def Tote.floorCleared (k : Tote) : Tote :=
  if k.state = .unused then k else { k with state := .opened, filled := 0, reserved := 0, manifest := [] }

/-- Clear Floor (R25, R138, R171). -/
def takeClearFloor (s : State) : State × Answer :=
  if s.mode = .live then (s, .bare .wrongMode)
  else if s.calendar.sweep.isSome then (s, .bare .busy)
  else
    (((s.withCases .empty).withTotes (s.totes.mapValues Tote.floorCleared)).withOutbound [],
      { status := .ok, data := .cleared s.cases.size s.outbound.length })

end Sys2Proof.Machine
end

