-- ==== Sys2Proof/Machine/Notices.lean ====
section
/-! DEFINITION. Notices and Error Capture: Query Notice, Set Notice Mask, Read Errors and Clear Errors (R151, R152, R155, R156), and Query
Line (R162). -/

namespace Sys2Proof.Machine

/-- The cause of highest priority that is both pending and enabled (R151). -/
def PortState.firstCall (x : PortState) : Option Cause := Cause.all.find? fun c => x.calls c

/-- Query Notice, at the notice unit of the port that sent it (R151). -/
def takeQueryNotice (p : Port) (s : State) : State × Answer :=
  let x := s.port p
  match x.firstCall with
  | some c =>
    (s.updPort p fun y => y.cleared c,
      { status := .ok, data := .notice (some c) ((x.notice? c).getD .none) (x.cleared c).pendingCauses })
  | none => (s, { status := .ok, data := .notice none .none x.pendingCauses })

/-- Set Notice Mask, at the notice unit of the port that sent it (R152). -/
def takeSetNoticeMask (p : Port) (marks : BitVec 12) (s : State) : State × Answer :=
  (s.updPort p fun y => PortState.refreshAttn { y with enabled := marks },
    { status := .ok, data := .pendingCauses (s.port p).pendingCauses })

/-- Query Line, at its own port: the six flags are returned and cleared (R162). -/
def takeQueryLine (p : Port) (s : State) : State × Answer :=
  (s.updPort p fun y => { y with line := .clear }, { status := .ok, data := .lineStatus (s.port p).line })

/-- Read Errors (R155). -/
def takeReadErrors (s : State) : State × Answer := (s, { status := .ok, data := .errors s.errors })

/-- Clear Errors (R156). -/
def takeClearErrors (s : State) : State × Answer := (s.withErrors .clear, { status := .ok, data := .errors s.errors })

end Sys2Proof.Machine
end

