-- ==== Sys2Proof/Machine/Routing.lean ====
section
/-! DEFINITION. Routing: Write Tote Map, Route Query with the overflow walk, Confirm Placement, Cancel Route, and the STOP line (R100 to
R120). -/

namespace Sys2Proof.Machine

/-- One entry written to the tote map: an entry with its valid flag clear makes the map entry invalid (R101). -/
def writeMapEntry (m : Store ToteNo) (e : MapWrite) : Store ToteNo :=
  match readRouteClass e.cls with
  | some cls =>
    if e.valid then m.insert (mapKey cls (toCategory e.category)) e.tote
    else m.erase (mapKey cls (toCategory e.category))
  | none => m

/-- R101: a class code that is not one of the six, or a category above 15. -/
def mapEntryBad (e : MapWrite) : Bool := (readRouteClass e.cls).isNone || decide (15 < e.category.toNat)

/-- Write Tote Map (R101). -/
def takeWriteToteMap (es : List MapWrite) (s : State) : State × Answer :=
  if es.any mapEntryBad then (s, .bare .badValue)
  else (s.withToteMap (es.foldl writeMapEntry s.toteMap), .bare .ok)

/-- The overflow walk from a tote, with a number of totes it may still visit (R105). None is the answer HOLD. -/
def walk (totes : ToteNo → Tote) : Nat → ToteNo → Option ToteNo
  | 0, _ => none
  | n + 1, t =>
    if (totes t).state = .unused then none
    else if (totes t).available then some t
    else match (totes t).link with
      | none => none
      | some u => walk totes n u

/-- A route answer travels under status OK (R165). -/
def routeReply (t : Tag) (a : RouteAnswer) : Answer := { status := .ok, data := .route t a }

/-- The reservation of a place in a tote (R106). -/
def State.reserve (s : State) (t : Tag) (c : Case) (cls : RouteClass) (tote : ToteNo) (deadline : Nat) : State :=
  let k := s.tote tote
  (s.setTote tote { k with reserved := k.reserved + 1 }).setCase t
    { c with state := .routed, reservation := some { tote := tote, deadline := deadline, due := false },
             routeClass := some cls, lastLapsedTote := none }

/-- A Route Query for a GRADED case that calls for a class (R104 to R107). -/
def routeGraded (p : Port) (t : Tag) (c : Case) (cls : RouteClass) (s : State) : State × Answer :=
  match s.mapEntry cls c.category with
  | none => (s.capture .unmappedRoute p (some t) none, routeReply t (.exception cls))
  | some first =>
    if (s.tote first).state = .unused then
      (s.capture .unmappedRoute p (some t) (some first), routeReply t (.exception cls))
    else match walk s.tote Config.walkLimit first with
      | none => (s, routeReply t (.hold cls))
      | some tote =>
        let deadline := satAdd s.secondCount s.settings.dwellLimit
        (s.reserve t c cls tote deadline, routeReply t (.tote tote (some cls) deadline))

/-- Route Query (R103). -/
def takeRouteQuery (p : Port) (t : Tag) (s : State) : State × Answer :=
  if s.stopped then (s, routeReply t .stopped)
  else match s.case? t with
    | none => (s, routeReply t .unknownTag)
    | some c => match c.state, c.reservation, c.classCalledFor with
      | .routed, some r, _ => (s, routeReply t (.tote r.tote c.routeClass r.deadline))
      | .graded, _, some cls => routeGraded p t c cls s
      | st, _, _ => (s, routeReply t (.notReady st))

/-- The tote after a placement (R110, steps 1, 2 and 5). -/
def Tote.placed (k : Tote) (tag : Tag) : Tote :=
  { k with reserved := k.reserved - 1, filled := k.filled + 1, manifest := k.manifest ++ [tag],
           state := if k.state = .opened ∧ k.capacity ≤ k.filled + 1 then .full else k.state }

/-- PLACED, or AUDIT_WAIT when the route class field is AUDIT (R110, step 4). -/
def Case.placedState (c : Case) : CaseState := if c.routeClass = some .audit then .auditWait else .placed

/-- A placement into the reserved tote (R110). -/
def State.place (s : State) (t : Tag) (c : Case) (tote : ToteNo) : State :=
  let k := s.tote tote
  let s1 := (s.setTote tote (k.placed t)).setCase t
    { c with reservation := none, location := .inTote tote, state := c.placedState }
  let s2 := if c.placedState = .auditWait then s1.raiseAuditReady t else s1
  let s3 := if k.state = .opened ∧ (k.placed t).state = .full then s2.raise toInductAndStock .toteFull (.tote tote) else s2
  s3.drainIfDone tote

/-- Confirm Placement (R109 to R112). -/
def takeConfirmPlacement (p : Port) (t : Tag) (tote : ToteNo) (s : State) : State × Answer :=
  match s.case? t with
  | none => (s, .bare .unknownTag)
  | some c => match c.state, c.reservation with
    | .routed, some r =>
      if r.tote = tote then
        let k := (s.tote tote).placed t
        (s.place t c tote, { status := .ok, data := .placed c.placedState tote k.filled k.state })
      else (s.capture .wrongTote p (some t) (some tote), { status := .wrongTote, data := .tote r.tote })
    | .graded, _ =>
      if c.lastLapsedTote = some tote then (s.capture .latePlacement p (some t) (some tote), .bare .tooLate)
      else (s, { status := .wrongState, data := .caseState .graded })
    | st, _ => (s, { status := .wrongState, data := .caseState st })

/-- Cancel Route (R113). -/
def takeCancelRoute (t : Tag) (s : State) : State × Answer :=
  match s.case? t with
  | none => (s, .bare .unknownTag)
  | some c => match c.state, c.reservation with
    | .routed, some r =>
      let s1 := (s.setTote r.tote (s.tote r.tote).placeBack).setCase t c.unreserved
      (s1.drainIfDone r.tote, { status := .ok, data := .tote r.tote })
    | st, _ => (s, { status := .wrongState, data := .caseState st })

/-- A reservation that is not due to lapse any more (R117, R118). -/
def Case.dwellNotDue (c : Case) : Case := { c with reservation := c.reservation.map fun r => { r with due := false } }

/-- The dwell deadline of a ROUTED case re-armed (R118). -/
def Case.rearmed (c : Case) (deadline : Nat) : Case :=
  if c.state = .routed then { c with reservation := c.reservation.map fun r => { r with deadline := deadline, due := false } }
  else c

/-- The rise of STOP (R118). A lapse of the last second event that has not been taken is not taken any more (R117). -/
def State.stopRises (s : State) : State :=
  ((s.withStopped true).withCases (s.cases.mapValues Case.dwellNotDue)).raise toInductAndStock .stopChange (.stopLevel true)

/-- The fall of STOP: the flag is cleared and every ROUTED case's dwell deadline is set again (R118). -/
def State.stopFalls (s : State) : State :=
  let deadline := satAdd s.secondCount s.settings.dwellLimit
  ((s.withStopped false).withCases (s.cases.mapValues fun c => c.rearmed deadline)).raise toInductAndStock .stopChange
    (.stopLevel false)

end Sys2Proof.Machine
end

