-- ==== Sys2Proof/Machine/Totes.lean ====
section
/-! DEFINITION. Totes, Manifests and Departure: Write Tote, Read Tote, Tote Swap and Take Manifest (R122 to R137). -/

namespace Sys2Proof.Machine

/-- R126, checks 1 to 3: the status of the first that fails. -/
def writeToteCheck (w : ToteWrite) (k : Tote) : Option Status :=
  match readWriteState w.state with
  | none => some .badValue
  | some st =>
    if w.capacity.toNat < 1 ∨ 32 < w.capacity.toNat ∨ w.link = some w.tote then some .badValue
    else if st = .unused ∧ (0 < k.filled ∨ 0 < k.reserved ∨ k.state = .draining) then some .tableInUse
    else if st = .opened ∧ w.capacity.toNat < k.filled + k.reserved then some .badValue
    else none

/-- The tote as a taken Write Tote leaves it (R127). -/
def Tote.written (k : Tote) (w : ToteWrite) : Tote :=
  match readWriteState w.state with
  | some .unused => { k with state := .unused, capacity := w.capacity.toNat, link := none }
  | _ =>
    let st := match k.state with
      | .unused => .opened
      | .draining => .draining
      | _ => if w.capacity.toNat = k.filled then .full else .opened
    { k with state := st, capacity := w.capacity.toNat, link := w.link }

/-- Write Tote (R126, R127). TOTE_FULL is raised when an OPEN tote becomes FULL. -/
def takeWriteTote (w : ToteWrite) (s : State) : State × Answer :=
  let k := s.tote w.tote
  match writeToteCheck w k with
  | some st => (s, { status := st, data := .toteRecord k })
  | none =>
    let s' := s.setTote w.tote (k.written w)
    (if k.state = .opened ∧ (k.written w).state = .full then s'.raise toInductAndStock .toteFull (.tote w.tote) else s',
      { status := .ok, data := .toteRecord (k.written w) })

/-- Read Tote (R129). -/
def takeReadTote (t : ToteNo) (s : State) : State × Answer :=
  (s, { status := .ok, data := .toteRead (s.tote t) (s.tote t).waits })

/-- The reply of a taken Tote Swap shows the tote as the event left it (R130). -/
def swapReply (k : Tote) : Answer := { status := .ok, data := .swapped k.state k.reserved k.waits }

/-- Tote Swap (R130, R131). -/
def takeToteSwap (t : ToteNo) (s : State) : State × Answer :=
  let k := s.tote t
  match k.state with
  | .unused => (s, .bare .wrongState)
  | .draining => (s, swapReply k)
  | _ =>
    let s' := (s.setTote t { k with state := .draining }).drainIfDone t
    (s', swapReply (s'.tote t))

/-- Take Manifest (R136): the oldest record is the reply, and the freed place is handed on in the same event. -/
def takeTakeManifest (s : State) : State × Answer :=
  match s.outbound with
  | [] => (s, .bare .empty)
  | r :: rest => ((s.withOutbound rest).handPlace, { status := .ok, data := .manifest r rest.length })

end Sys2Proof.Machine
end

