-- ==== Sys2Proof/Machine/Ports.lean ====
section
/-! DEFINITION. The ports: the owning block of each request (R167), the checks before it (R165, R168), the request slots (R163, R164), the
frame assembler (R159, R161), the bits of a character (R158), replies sent, and port reset (R166). -/

namespace Sys2Proof.Machine

/-- An answer that is ready when the request is taken (R163). -/
def ready (x : State × Answer) : State × Option Answer := (x.1, some x.2)

/-- The block that owns the state concerned acts on a request (R163, R167). Only a taken Submit Grade has no answer yet (R68). -/
def takeRequest (p : Port) (r : Request) (s : State) : State × Option Answer :=
  match r with
  | .fetchCase t => ready (takeFetchCase p t s)
  | .queryNotice => ready (takeQueryNotice p s)
  | .setNoticeMask m => ready (takeSetNoticeMask p m s)
  | .readClock => ready (takeReadClock s)
  | .queryLine => ready (takeQueryLine p s)
  | .expectReturn a => ready (takeExpectReturn a s)
  | .cancelReturn t => ready (takeCancelReturn t s)
  | .reviveCase t => ready (takeReviveCase t s)
  | .closeCase t => ready (takeCloseCase t s)
  | .forceDisposition t bd g => ready (takeForceDisposition t bd g s)
  | .writeWeights c f es => ready (takeWriteWeights c f es s)
  | .writeCategory c w => ready (takeWriteCategory c w s)
  | .writeToteMap es => ready (takeWriteToteMap es s)
  | .writeTote w => ready (takeWriteTote w s)
  | .readTote t => ready (takeReadTote t s)
  | .takeManifest => ready (takeTakeManifest s)
  | .setClock w => ready (takeSetClock w s)
  | .reseedSampler x => ready (takeReseedSampler x s)
  | .readErrors => ready (takeReadErrors s)
  | .clearErrors => ready (takeClearErrors s)
  | .writeSettings w => ready (takeWriteSettings w s)
  | .goLive => ready (takeGoLive s)
  | .goConfig => ready (takeGoConfig s)
  | .clearFloor => ready (takeClearFloor s)
  | .claimCase t => ready (takeClaimCase p t s)
  | .submitGrade t a obs => takeSubmitGrade p t a obs s
  | .releaseCase t => ready (takeReleaseCase p t s)
  | .routeQuery t => ready (takeRouteQuery p t s)
  | .confirmPlacement t n => ready (takeConfirmPlacement p t n s)
  | .cancelRoute t => ready (takeCancelRoute t s)
  | .toteSwap t => ready (takeToteSwap t s)
  | .unknownKind _ => (s, some (.bare .badKind))
  | .wrongLength _ => (s, some (.bare .badLength))

/-- The checks of R165, then mode control (R168): the status of the first that refuses. -/
def portCheck (role : Role) (mode : Mode) (r : Request) : Option Status :=
  if !knownKind r.kind then some .badKind
  else if !roleAllows role r.kind then some .role
  else if !r.lengthFits then some .badLength
  else if needsLive r.kind ∧ mode = .config then some .notLive
  else none

/-- The answer of a refusal by the checks or by mode control: its status alone (R165), but a Route Query's tag with NOT_LIVE, an outcome
of R103's table, every reply of which carries the tag (DEDUCED, log entry 19). -/
def refusalAnswer (r : Request) (st : Status) : Answer :=
  match r, st with
  | .routeQuery t, .notLive => { status := st, data := .tagAlone t }
  | _, _ => .bare st

/-- What a request in the service slot is answered with, and the state it leaves (R165). -/
def answerRequest (p : Port) (r : Request) (s : State) : State × Option Answer :=
  match portCheck (s.port p).role s.mode r with
  | some st => (s, some (refusalAnswer r st))
  | none => takeRequest p r s

/-- The reply becomes ready in the service slot, with the kind and number of the request (R158, R163). -/
def State.setReply (s : State) (p : Port) (num : Byte) (r : Request) (a : Answer) : State :=
  s.updPort p fun x =>
    { x with service := some { num := num, request := r,
                               reply := some { kind := r.kind, num := num, status := a.status, data := a.data } } }

/-- A request enters the service slot and is handed on (R163). -/
def State.handOn (s : State) (p : Port) (num : Byte) (r : Request) : State :=
  let s1 := s.updPort p fun x => { x with service := some { num := num, request := r, reply := none } }
  match answerRequest p r s1 with
  | (s2, some a) => s2.setReply p num r a
  | (s2, none) => s2

/-- A good frame with both slots full: discarded, OVERRUN set, LINE_FAULT raised, PORT_OVERRUN captured (R164). -/
def State.overrun (s : State) (p : Port) : State :=
  (s.lineFault p LineStatus.setOverrun).capture .portOverrun p none none

/-- A good frame goes to the service slot when it is empty and is handed on, and otherwise to the waiting slot (R163, R164). -/
def State.acceptFrame (s : State) (p : Port) (num : Byte) (r : Request) : State :=
  match (s.port p).service, (s.port p).waiting with
  | none, _ => s.handOn p num r
  | some _, none => s.updPort p fun x => { x with waiting := some { num := num, request := r } }
  | some _, some _ => s.overrun p

/-- A request arrives on a port as a good frame: nothing where the receiver takes nothing in (R157, R166); a LENGTH fault where no
frame could carry it (R161); else the slots. After the frame the assembler is idle (R159). -/
def State.arrive (s : State) (p : Port) (num : Byte) (r : Request) : State :=
  if (s.port p).deaf then s
  else if Config.maxLen < r.len then s.lineFault p LineStatus.setLength
  else (s.updPort p fun x => { x with assembler := .idle }).acceptFrame p num r

/-- One character received without a parity or framing error (R159, R161). -/
def State.receiveChar (p : Port) (s : State) (ch : Byte) : State :=
  let x := s.port p
  if x.deaf then s
  else match x.assembler with
    | .idle => if ch = Config.sync then s.updPort p fun y => { y with assembler := .synced } else s
    | .synced =>
      if ch.toNat < Config.minLen ∨ Config.maxLen < ch.toNat then s.lineFault p LineStatus.setLength
      else s.updPort p fun y => { y with assembler := .body ch [] }
    | .body len got =>
      if got.length < len.toNat then s.updPort p fun y => { y with assembler := .body len (got ++ [ch]) }
      else if crc8 (len :: got) = ch then
        match got with
        | kind :: num :: fields =>
          (s.updPort p fun y => { y with assembler := .idle }).acceptFrame p num (readRequest kind fields)
        | _ => s.updPort p fun y => { y with assembler := .idle }
      else s.lineFault p LineStatus.setCheck

/-- A fault event of the line, where the receiver takes anything in (R157, R161, R166). -/
def State.faultEvent (s : State) (p : Port) (flag : LineStatus → LineStatus) : State :=
  if (s.port p).deaf then s else s.lineFault p flag

/-- The eleven bits of one character arrive on a port's line, not as part of a break (R158, R161). A parity error and a missing stop
bit are each a fault of their own, and a character with neither is received. -/
def State.receiveBits (p : Port) (s : State) (bits : List Bool) : State :=
  match readChar bits with
  | none => s
  | some c =>
    if c.parityOk ∧ c.stopOk then s.receiveChar p c.data
    else
      let s1 := if c.parityOk then s else s.faultEvent p LineStatus.setParity
      if c.stopOk then s1 else s1.faultEvent p LineStatus.setFraming

/-- A run of characters arrives on a port's line, each as its eleven bits (R158). -/
def State.receive (s : State) (p : Port) (chars : List Byte) : State :=
  chars.foldl (fun s ch => s.receiveBits p (charBits ch)) s

/-- The last character of a reply has been sent: the service slot is empty, and the waiting request moves into it and is handed
on in the same event (R163). Nothing is sent while no reply is ready. -/
def State.replyLeaves (s : State) (p : Port) : State :=
  match (s.port p).service with
  | some { num := _, request := _, reply := some _ } =>
    match (s.port p).waiting with
    | none => s.updPort p fun x => { x with service := none }
    | some q => (s.updPort p fun x => { x with service := none, waiting := none }).handOn p q.num q.request
  | _ => s

/-- A port as a break leaves it, before the raises its releases cause (R166). The role is unchanged. -/
def PortState.broken (x : PortState) : PortState := { PortState.reset x.role with inBreak := true }

/-- A break: a port reset of that port (R166). A break that lasts is one port reset, and an OFF port counts none (R157). -/
def State.portBreak (s : State) (p : Port) : State :=
  if (s.port p).deaf then s else (s.updPort p PortState.broken).releaseHoldsOf p

end Sys2Proof.Machine
end

