-- ==== Sys2Proof/Machine/Requests.lean ====
section
/-! DEFINITION. The meanings of the request rows: each request arrives on its port as a good frame (R163, log entry 2), so it is taken at
once by its owning block when the port's service slot is empty. What the block does is `take<Request>`, by the rule named. -/

namespace Sys2Proof.Machine

/-- The outcome of a command that changes the state to `s`: no command stops the part. -/
abbrev went (s : State) : Host.Outcome State Fault Refusal := .next s

/-- Fetch Case: R16. -/
def execFetchCase (p : Port) (num : Byte) (tag : Tag) (s : State) : Host.Outcome State Fault Refusal :=
  went (s.arrive p num (.fetchCase tag))

/-- Query Notice: R151. -/
def execQueryNotice (p : Port) (num : Byte) (s : State) : Host.Outcome State Fault Refusal :=
  went (s.arrive p num .queryNotice)

/-- Set Notice Mask: R152. -/
def execSetNoticeMask (p : Port) (num : Byte) (marks : BitVec 12) (s : State) : Host.Outcome State Fault Refusal :=
  went (s.arrive p num (.setNoticeMask marks))

/-- Read Clock: R147. -/
def execReadClock (p : Port) (num : Byte) (s : State) : Host.Outcome State Fault Refusal :=
  went (s.arrive p num .readClock)

/-- Query Line: R162. -/
def execQueryLine (p : Port) (num : Byte) (s : State) : Host.Outcome State Fault Refusal :=
  went (s.arrive p num .queryLine)

/-- Expect Return: R8. -/
def execExpectReturn (p : Port) (num : Byte) (a : Announcement) (s : State) : Host.Outcome State Fault Refusal :=
  went (s.arrive p num (.expectReturn a))

/-- Cancel Return: R10. -/
def execCancelReturn (p : Port) (num : Byte) (tag : Tag) (s : State) : Host.Outcome State Fault Refusal :=
  went (s.arrive p num (.cancelReturn tag))

/-- Revive Case: R12. -/
def execReviveCase (p : Port) (num : Byte) (tag : Tag) (s : State) : Host.Outcome State Fault Refusal :=
  went (s.arrive p num (.reviveCase tag))

/-- Close Case: R19. -/
def execCloseCase (p : Port) (num : Byte) (tag : Tag) (s : State) : Host.Outcome State Fault Refusal :=
  went (s.arrive p num (.closeCase tag))

/-- Force Disposition: R21. -/
def execForceDisposition (p : Port) (num : Byte) (tag : Tag) (band gate : Byte)
    (s : State) : Host.Outcome State Fault Refusal :=
  went (s.arrive p num (.forceDisposition tag band gate))

/-- Write Weights: R76, R77. -/
def execWriteWeights (p : Port) (num : Byte) (category first : Byte) (entries : List WeightWrite)
    (s : State) : Host.Outcome State Fault Refusal :=
  went (s.arrive p num (.writeWeights category first entries))

/-- Write Category: R78 to R80. -/
def execWriteCategory (p : Port) (num : Byte) (category : Byte) (w : CategoryWrite)
    (s : State) : Host.Outcome State Fault Refusal :=
  went (s.arrive p num (.writeCategory category w))

/-- Write Tote Map: R101. -/
def execWriteToteMap (p : Port) (num : Byte) (entries : List MapWrite)
    (s : State) : Host.Outcome State Fault Refusal :=
  went (s.arrive p num (.writeToteMap entries))

/-- Write Tote: R126, R127. -/
def execWriteTote (p : Port) (num : Byte) (w : ToteWrite) (s : State) : Host.Outcome State Fault Refusal :=
  went (s.arrive p num (.writeTote w))

/-- Read Tote: R129. -/
def execReadTote (p : Port) (num : Byte) (tote : ToteNo) (s : State) : Host.Outcome State Fault Refusal :=
  went (s.arrive p num (.readTote tote))

/-- Take Manifest: R136. -/
def execTakeManifest (p : Port) (num : Byte) (s : State) : Host.Outcome State Fault Refusal :=
  went (s.arrive p num .takeManifest)

/-- Set Clock: R146. -/
def execSetClock (p : Port) (num : Byte) (w : ClockWrite) (s : State) : Host.Outcome State Fault Refusal :=
  went (s.arrive p num (.setClock w))

/-- Reseed Sampler: R89. -/
def execReseedSampler (p : Port) (num : Byte) (seed : BitVec 16) (s : State) : Host.Outcome State Fault Refusal :=
  went (s.arrive p num (.reseedSampler seed))

/-- Read Errors: R155. -/
def execReadErrors (p : Port) (num : Byte) (s : State) : Host.Outcome State Fault Refusal :=
  went (s.arrive p num .readErrors)

/-- Clear Errors: R156. -/
def execClearErrors (p : Port) (num : Byte) (s : State) : Host.Outcome State Fault Refusal :=
  went (s.arrive p num .clearErrors)

/-- Write Settings: R170. -/
def execWriteSettings (p : Port) (num : Byte) (w : SettingsWrite) (s : State) : Host.Outcome State Fault Refusal :=
  went (s.arrive p num (.writeSettings w))

/-- Go Live: R169. -/
def execGoLive (p : Port) (num : Byte) (s : State) : Host.Outcome State Fault Refusal :=
  went (s.arrive p num .goLive)

/-- Go Config: R169. -/
def execGoConfig (p : Port) (num : Byte) (s : State) : Host.Outcome State Fault Refusal :=
  went (s.arrive p num .goConfig)

/-- Clear Floor: R171. -/
def execClearFloor (p : Port) (num : Byte) (s : State) : Host.Outcome State Fault Refusal :=
  went (s.arrive p num .clearFloor)

/-- Claim Case: R27 to R32. -/
def execClaimCase (p : Port) (num : Byte) (tag : Tag) (s : State) : Host.Outcome State Fault Refusal :=
  went (s.arrive p num (.claimCase tag))

/-- Submit Grade: R38, R45. -/
def execSubmitGrade (p : Port) (num : Byte) (tag : Tag) (observed : Attributes) (observations : List Observation)
    (s : State) : Host.Outcome State Fault Refusal :=
  went (s.arrive p num (.submitGrade tag observed observations))

/-- Release Case: R34. -/
def execReleaseCase (p : Port) (num : Byte) (tag : Tag) (s : State) : Host.Outcome State Fault Refusal :=
  went (s.arrive p num (.releaseCase tag))

/-- Route Query: R103 to R107. -/
def execRouteQuery (p : Port) (num : Byte) (tag : Tag) (s : State) : Host.Outcome State Fault Refusal :=
  went (s.arrive p num (.routeQuery tag))

/-- Confirm Placement: R109 to R112. -/
def execConfirmPlacement (p : Port) (num : Byte) (tag : Tag) (tote : ToteNo)
    (s : State) : Host.Outcome State Fault Refusal :=
  went (s.arrive p num (.confirmPlacement tag tote))

/-- Cancel Route: R113. -/
def execCancelRoute (p : Port) (num : Byte) (tag : Tag) (s : State) : Host.Outcome State Fault Refusal :=
  went (s.arrive p num (.cancelRoute tag))

/-- Tote Swap: R130. -/
def execToteSwap (p : Port) (num : Byte) (tote : ToteNo) (s : State) : Host.Outcome State Fault Refusal :=
  went (s.arrive p num (.toteSwap tote))

/-- A good frame whose kind is no code of the catalogue: answered BAD_KIND (R165, R167). A kind of the catalogue makes it no
such frame (log entry 3). -/
def execBadKindRequest (p : Port) (num kind : Byte) (s : State) : Host.Outcome State Fault Refusal :=
  went (if knownKind kind then s else s.arrive p num (.unknownKind kind))

end Sys2Proof.Machine
end

