-- ==== Sys2Proof/Machine/Events.lean ====
section
/-! DEFINITION. The meanings of the event rows. An event commanded in a state in which the spec says it cannot arise changes nothing (log
entry 3). -/

namespace Sys2Proof.Machine

/-- A rising edge of SECPULSE: the calendar advances, and at 23:59:59 this is the midnight rollover (R140 to R142). -/
def execSecondEvent (s : State) : Host.Outcome State Fault Refusal := went s.tick

/-- A hold lapse at one case, after the second event that reached its deadline (R35, R36). -/
def execHoldLapse (tag : Tag) (s : State) : Host.Outcome State Fault Refusal := went (s.takeHoldLapse tag)

/-- A dwell lapse at one case, after the second event that reached its deadline (R116). -/
def execDwellLapse (tag : Tag) (s : State) : Host.Outcome State Fault Refusal := went (s.takeDwellLapse tag)

/-- The midnight rollover is the second event taken at 23:59:59 (R142). -/
def execMidnightRollover (s : State) : Host.Outcome State Fault Refusal :=
  went (if s.calendar.beforeMidnight then s.tick else s)

/-- The sweep visits one case not yet visited (R143). -/
def execSweepVisit (tag : Tag) (s : State) : Host.Outcome State Fault Refusal := went (s.visit tag)

/-- The STOP line rises (R118); a second rise cannot occur while it is asserted. -/
def execStopRise (s : State) : Host.Outcome State Fault Refusal := went (if s.stopped then s else s.stopRises)

/-- The STOP line falls (R118). -/
def execStopFall (s : State) : Host.Outcome State Fault Refusal := went (if s.stopped then s.stopFalls else s)

/-- RESET returns high, or power-up: every piece of state takes its value after device reset, the straps and the level of STOP
are sampled (R172). The free values go on, so that a later one is not an earlier one again. -/
def execDeviceReset (roles : BitVec 16) (rate : BitVec 2) (stop : Bool) (s : State) : Host.Outcome State Fault Refusal :=
  went (((State.afterReset roles rate stop).withFreeCount s.freeCount).withPending s.pending)

/-- A break on a port's receive line (R166). -/
def execPortReset (p : Port) (s : State) : Host.Outcome State Fault Refusal := went (s.portBreak p)

/-- The IDLE engine takes the oldest submission (R46). -/
def execComputationStart (s : State) : Host.Outcome State Fault Refusal := went s.startComputation

/-- The engine completes the first grade it is computing (R65). -/
def execFirstGradeCompletion (s : State) : Host.Outcome State Fault Refusal :=
  went (match s.engine with
    | some k => if k.submission.kind = .first then s.completeFirst k else s
    | none => s)

/-- The engine completes the audit grade it is computing (R66). -/
def execAuditGradeCompletion (s : State) : Host.Outcome State Fault Refusal :=
  went (match s.engine with
    | some k => if k.submission.kind = .audit then s.completeAudit k else s
    | none => s)

/-- The drain of a tote completes when it is DRAINING with reserved 0 (R131, R132). -/
def execDrainCompletion (tote : ToteNo) (s : State) : Host.Outcome State Fault Refusal := went (s.drainIfDone tote)

/-- A free place in the outbound queue goes to the lowest-numbered waiting tote (R136). -/
def execWaitingToteDeparture (s : State) : Host.Outcome State Fault Refusal := went s.handPlace

/-- The characters of a frame, from SYNC to CHK, arrive on a port without a fault of the line (R158, R159, R163). -/
def execGoodFrame (p : Port) (chars : List Byte) (s : State) : Host.Outcome State Fault Refusal := went (s.receive p chars)

/-- A reply's last character has been sent (R163). -/
def execReplySent (p : Port) (s : State) : Host.Outcome State Fault Refusal := went (s.replyLeaves p)

/-- A character with a parity error (R161). -/
def execParityError (p : Port) (s : State) : Host.Outcome State Fault Refusal := went (s.faultEvent p LineStatus.setParity)

/-- A character with no stop bit that is not part of a break (R161). -/
def execFramingError (p : Port) (s : State) : Host.Outcome State Fault Refusal := went (s.faultEvent p LineStatus.setFraming)

/-- A completed frame whose CHK does not match (R161). -/
def execCheckError (p : Port) (s : State) : Host.Outcome State Fault Refusal := went (s.faultEvent p LineStatus.setCheck)

/-- A LEN character below 2 or above 160 (R161). -/
def execLengthError (p : Port) (s : State) : Host.Outcome State Fault Refusal := went (s.faultEvent p LineStatus.setLength)

/-- More than 20 ms between two characters of one frame: the frame is discarded, and the late character arrives at an idle
assembler (R161). -/
def execGapTimeout (p : Port) (late : Byte) (s : State) : Host.Outcome State Fault Refusal :=
  went ((s.faultEvent p LineStatus.setGap).receiveChar p late)

/-- A good frame arrives with both slots of its port full (R164). -/
def execPortOverrun (p : Port) (s : State) : Host.Outcome State Fault Refusal :=
  went (if (s.port p).deaf = false ∧ (s.port p).service.isSome ∧ (s.port p).waiting.isSome then s.overrun p else s)

/-- After a break the line returns to mark, and the assembler again hunts for SYNC (R166). -/
def execLineReturnToMark (p : Port) (s : State) : Host.Outcome State Fault Refusal :=
  went (s.updPort p fun x => { x with inBreak := false })

end Sys2Proof.Machine
end

