-- ==== Sys2Proof/Machine/Dispatch.lean ====
section
/-! DEFINITION. The dispatch: each command's meaning, one arm per row of opcode_table.json. -/

namespace Sys2Proof.Machine

/-- A command's effect on everything but the queue. -/
def exec (i : Instr) (s : State) : Host.Outcome State Fault Refusal :=
  match i with
  | .fetchCase p num tag => Sys2Proof.Machine.execFetchCase p num tag s
  | .queryNotice p num => Sys2Proof.Machine.execQueryNotice p num s
  | .setNoticeMask p num marks => Sys2Proof.Machine.execSetNoticeMask p num marks s
  | .readClock p num => Sys2Proof.Machine.execReadClock p num s
  | .queryLine p num => Sys2Proof.Machine.execQueryLine p num s
  | .expectReturn p num a => Sys2Proof.Machine.execExpectReturn p num a s
  | .cancelReturn p num tag => Sys2Proof.Machine.execCancelReturn p num tag s
  | .reviveCase p num tag => Sys2Proof.Machine.execReviveCase p num tag s
  | .closeCase p num tag => Sys2Proof.Machine.execCloseCase p num tag s
  | .forceDisposition p num tag band gate => Sys2Proof.Machine.execForceDisposition p num tag band gate s
  | .writeWeights p num category first entries => Sys2Proof.Machine.execWriteWeights p num category first entries s
  | .writeCategory p num category w => Sys2Proof.Machine.execWriteCategory p num category w s
  | .writeToteMap p num entries => Sys2Proof.Machine.execWriteToteMap p num entries s
  | .writeTote p num w => Sys2Proof.Machine.execWriteTote p num w s
  | .readTote p num tote => Sys2Proof.Machine.execReadTote p num tote s
  | .takeManifest p num => Sys2Proof.Machine.execTakeManifest p num s
  | .setClock p num w => Sys2Proof.Machine.execSetClock p num w s
  | .reseedSampler p num seed => Sys2Proof.Machine.execReseedSampler p num seed s
  | .readErrors p num => Sys2Proof.Machine.execReadErrors p num s
  | .clearErrors p num => Sys2Proof.Machine.execClearErrors p num s
  | .writeSettings p num w => Sys2Proof.Machine.execWriteSettings p num w s
  | .goLive p num => Sys2Proof.Machine.execGoLive p num s
  | .goConfig p num => Sys2Proof.Machine.execGoConfig p num s
  | .clearFloor p num => Sys2Proof.Machine.execClearFloor p num s
  | .claimCase p num tag => Sys2Proof.Machine.execClaimCase p num tag s
  | .submitGrade p num tag observed observations => Sys2Proof.Machine.execSubmitGrade p num tag observed observations s
  | .releaseCase p num tag => Sys2Proof.Machine.execReleaseCase p num tag s
  | .routeQuery p num tag => Sys2Proof.Machine.execRouteQuery p num tag s
  | .confirmPlacement p num tag tote => Sys2Proof.Machine.execConfirmPlacement p num tag tote s
  | .cancelRoute p num tag => Sys2Proof.Machine.execCancelRoute p num tag s
  | .toteSwap p num tote => Sys2Proof.Machine.execToteSwap p num tote s
  | .badKindRequest p num kind => Sys2Proof.Machine.execBadKindRequest p num kind s
  | .secondEvent => Sys2Proof.Machine.execSecondEvent s
  | .holdLapse tag => Sys2Proof.Machine.execHoldLapse tag s
  | .dwellLapse tag => Sys2Proof.Machine.execDwellLapse tag s
  | .midnightRollover => Sys2Proof.Machine.execMidnightRollover s
  | .sweepVisit tag => Sys2Proof.Machine.execSweepVisit tag s
  | .stopRise => Sys2Proof.Machine.execStopRise s
  | .stopFall => Sys2Proof.Machine.execStopFall s
  | .deviceReset roles rate stop => Sys2Proof.Machine.execDeviceReset roles rate stop s
  | .portReset p => Sys2Proof.Machine.execPortReset p s
  | .computationStart => Sys2Proof.Machine.execComputationStart s
  | .firstGradeCompletion => Sys2Proof.Machine.execFirstGradeCompletion s
  | .auditGradeCompletion => Sys2Proof.Machine.execAuditGradeCompletion s
  | .drainCompletion tote => Sys2Proof.Machine.execDrainCompletion tote s
  | .waitingToteDeparture => Sys2Proof.Machine.execWaitingToteDeparture s
  | .goodFrame p chars => Sys2Proof.Machine.execGoodFrame p chars s
  | .replySent p => Sys2Proof.Machine.execReplySent p s
  | .parityError p => Sys2Proof.Machine.execParityError p s
  | .framingError p => Sys2Proof.Machine.execFramingError p s
  | .checkError p => Sys2Proof.Machine.execCheckError p s
  | .lengthError p => Sys2Proof.Machine.execLengthError p s
  | .gapTimeout p late => Sys2Proof.Machine.execGapTimeout p late s
  | .portOverrun p => Sys2Proof.Machine.execPortOverrun p s
  | .lineReturnToMark p => Sys2Proof.Machine.execLineReturnToMark p s

end Sys2Proof.Machine
end

