-- ==== Sys2Proof/Machine/Layout.lean ====
section
/-! DEFINITION. Replies as the line carries them: the frame of every reply (R158, R159), the layouts of R160, R162 and R167, and free
characters for the fields whose layout the spec does not give (log entry 10). -/

namespace Sys2Proof.Machine

/-- The status codes (R167). -/
def Status.code : Status → Nat
  | .ok => 0
  | .renewed => 1
  | .replaced => 2
  | .clamped => 3
  | .unknownTag => 4
  | .duplicate => 5
  | .tableFull => 6
  | .wrongState => 7
  | .heldElsewhere => 8
  | .notHolder => 9
  | .lapsedHold => 10
  | .caseLapsed => 11
  | .sameGrader => 12
  | .notAuditor => 13
  | .role => 14
  | .notLive => 15
  | .wrongMode => 16
  | .badValue => 17
  | .badLength => 18
  | .badKind => 19
  | .tableInUse => 20
  | .busy => 21
  | .tooLate => 22
  | .wrongTote => 23
  | .empty => 24

/-- The route answer codes (R167). -/
def RouteAnswer.code : RouteAnswer → Nat
  | .tote .. => 0
  | .hold _ => 1
  | .exception _ => 2
  | .stopped => 3
  | .notReady _ => 4
  | .unknownTag => 5

/-- The case state codes (R160). -/
def CaseState.code : CaseState → Nat
  | .expected => 0
  | .lapsed => 1
  | .onBench => 2
  | .grading => 3
  | .graded => 4
  | .routed => 5
  | .placed => 6
  | .auditWait => 7
  | .onAudit => 8

/-- The band codes (R160). -/
def Band.code : Band → Nat
  | .a => 0
  | .b => 1
  | .c => 2
  | .d => 3
  | .q => 4

/-- The gate codes (R160). -/
def Gate.code : Gate → Nat
  | .release => 0
  | .hold => 1

/-- The tote state codes (R160). -/
def ToteState.code : ToteState → Nat
  | .unused => 0
  | .opened => 1
  | .full => 2
  | .draining => 3

/-- The location code and the location tote (R160). -/
def Location.code : Location → Nat
  | .none => 0
  | .inTote _ => 1
  | .departed => 2
def Location.tote : Location → Nat
  | .inTote t => t.toNat
  | _ => 0

/-- The flags character of a grade record: CEILING bit 0, FLOOR 1, CLAMPED 2, WEAR 3, LATE 4 (R160). -/
def GradeRecord.flagsChar (g : GradeRecord) : Nat :=
  g.ceilingFlag.toNat + 2 * g.floorFlag.toNat + 4 * g.clampedFlag.toNat + 8 * g.wearFlag.toNat + 16 * g.lateFlag.toNat

/-- A grade record in ten characters (R160). -/
def GradeRecord.chars (g : GradeRecord) : List Byte :=
  chars1 g.grader.val ++ chars2 g.deduction ++ chars2 g.wear ++ chars2 g.score ++ chars1 g.band.code ++ [g.mismatch.toChar] ++
    chars1 g.flagsChar

/-- An absent grade record, sent as zeros (R160). -/
def gradeChars (g : Option GradeRecord) : List Byte := (g.map GradeRecord.chars).getD (List.replicate 10 0)

/-- The presence marks of a case record reply, bits 0 to 9 in the order of R160. -/
def Case.presence (c : Case) : Nat :=
  c.holder.isSome.toNat + 2 * c.lastLapsedHolder.isSome.toNat + 4 * c.firstGrade.isSome.toNat + 8 * c.audit.isSome.toNat +
    16 * (c.audit.bind (·.resolution)).isSome.toNat + 32 * c.finalBand.isSome.toNat + 64 * c.refundGate.isSome.toNat +
    128 * c.reservation.isSome.toNat + 256 * c.lastLapsedTote.isSome.toNat + 512 * c.routeClass.isSome.toNat

/-- The outcome bit: 0 AGREE, 1 DISPUTE (R160). -/
def outcomeBit (o : Option AuditOutcome) : Nat := if o = some .dispute then 1 else 0

/-- The case record reply after kind, number and status: characters 4 to 60 (R160). An absent part is sent as zeros. -/
def Case.recordChars (tag : Tag) (c : Case) : List Byte :=
  let res := c.audit.bind (·.resolution)
  chars4 tag.toNat ++ chars1 c.state.code ++ chars1 c.category.val ++ chars2 c.sku.toNat ++
    chars1 (c.declared.size.toNat + 64 * c.declared.fitted.toNat) ++
    [c.declared.colour, c.declared.label, c.declared.material.setWidth 8] ++ chars2 c.deliveryDay ++ chars2 c.openedDay ++
    chars2 c.presence ++
    chars1 (c.override.toNat + 2 * ((c.audit.map (·.selected)).getD false).toNat + 4 * outcomeBit (res.map (·.outcome))) ++
    chars1 c.location.code ++ chars1 c.location.tote ++
    chars1 ((c.holder.map (·.port.val)).getD 0) ++ chars4 ((c.holder.map (·.deadline)).getD 0) ++
    chars1 ((c.lastLapsedHolder.map (·.val)).getD 0) ++
    chars1 ((c.reservation.map (·.tote.toNat)).getD 0) ++ chars4 ((c.reservation.map (·.deadline)).getD 0) ++
    chars1 ((c.lastLapsedTote.map (·.toNat)).getD 0) ++ chars1 ((c.routeClass.map (·.index)).getD 0) ++
    chars1 ((c.finalBand.map (·.code)).getD 0) ++ chars1 ((c.refundGate.map (·.code)).getD 0) ++
    gradeChars c.firstGrade ++ chars1 ((res.map (·.auditor.val)).getD 0) ++ gradeChars (res.map (·.grade))

/-- The Query Line flags: PARITY bit 0, FRAMING 1, CHECK 2, LENGTH 3, GAP 4, OVERRUN 5 (R162). -/
def LineStatus.flagsChar (l : LineStatus) : Nat :=
  l.parity.toNat + 2 * l.framing.toNat + 4 * l.check.toNat + 8 * l.length.toNat + 16 * l.gap.toNat + 32 * l.overrun.toNat

/-- The field characters of a Submit Grade reply: the ten of its grade record (R68, R160) among those of its other items, whose
layout the guide does not state and which are free (log entry 10). LEN stays within 160 (R158). -/
def GradeResult.chars (r : GradeResult) : List Byte :=
  let items := (r.tag, r.kind, r.selected, r.outcome, r.finalBand, r.cls)
  (Config.freeFields 0 items).take 73 ++ r.grade.chars ++ (Config.freeFields 1 items).take 74

/-- The field characters of a route answer: its code (R167) among the characters of the tag and of the items that go with it, whose
layout is not stated and which are free (log entry 10). LEN stays within 160 (R158). -/
def routeChars (tag : Tag) (answer : RouteAnswer) : List Byte :=
  (Config.freeFields 0 (tag, answer)).take 78 ++ chars1 answer.code ++ (Config.freeFields 1 (tag, answer)).take 78

/-- The field characters of a reply. What the guide lays out is as it says: no field, the case record, the line status, a grade record,
a route answer's code, and a tag that is the one field (DEDUCED, log entry 10). The characters of all other items are free, from
the items the reply carries (log entry 10). LEN stays within 160 (R158). -/
def ReplyData.chars (d : ReplyData) : List Byte :=
  match d with
  | .none => []
  | .caseRecord t c => c.recordChars t
  | .lineStatus l => chars1 l.flagsChar
  | .graded r => r.chars
  | .route t a => routeChars t a
  | .tagAlone t => chars4 t.toNat
  | .caseState .. | .stateLocation .. | .stateBand .. | .stateHolder .. | .holderPort .. | .claimed .. | .notice .. | .pendingCauses ..
  | .clock .. | .clockSet .. | .categoryRecord .. | .toteRecord .. | .toteRead .. | .manifest .. | .sampler .. | .errors ..
  | .settings .. | .mode .. | .cleared .. | .placed .. | .tote .. | .swapped .. => (Config.freeFields 0 d).take 157

/-- The frame of a reply: SYNC, LEN, the kind and number copied from the request, the status, the fields, and the CHK that the
transmitter appends to every reply (R158, R159). -/
def Reply.frame (r : Reply) : List Byte :=
  frameChars (r.kind :: r.num :: BitVec.ofNat 8 r.status.code :: r.data.chars)

/-- The bits of a reply's frame on the transmit line, in the order sent (R158). -/
def Reply.lineBits (r : Reply) : List Bool := r.frame.flatMap charBits

/-- The frame that a port sends: that of the reply ready in its service slot, if one is (R158, R159, R163). -/
def State.frameToSend (s : State) (p : Port) : Option (List Byte) :=
  ((s.port p).service.bind (·.reply)).map Reply.frame

end Sys2Proof.Machine
end

