-- ==== Sys2Proof/WellFormed.lean ====
section
/-! DEFINITION. Which commands the line can carry or spell: a list short enough for one frame (R161), a kind outside the catalogue
(R167), and a good frame that is one (R158, R159). Every other operand is bounded by its type. -/

namespace Sys2Proof

/-- SYNC, a LEN of 2 to 160, that many body characters, and the CHK over them (R158, R159, R161). -/
def goodFrameChars : List Byte → Bool
  | sync :: len :: rest =>
    decide (sync = Config.sync) && decide (Config.minLen ≤ len.toNat) && decide (len.toNat ≤ Config.maxLen) &&
      decide (rest.length = len.toNat + 1) && decide (rest.getLast? = some (crc8 (len :: rest.dropLast)))
  | _ => false

/-- A command that the line can carry. -/
def Instr.wellFormed : Instr → Bool
  | .writeWeights _ _ _ _ es => decide (4 + 3 * es.length ≤ Config.maxLen)
  | .writeToteMap _ _ es => decide (2 + 4 * es.length ≤ Config.maxLen)
  | .submitGrade _ _ _ _ obs => decide (10 + 2 * obs.length ≤ Config.maxLen)
  | .badKindRequest _ _ k => !knownKind k
  | .goodFrame _ chars => goodFrameChars chars
  | _ => true

/-- A request of the catalogue with its fields, or of a kind outside it: one that a frame's characters spell (R167). -/
def Request.spelled : Request → Bool
  | .wrongLength _ => false
  | .unknownKind k => !knownKind k
  | _ => true

end Sys2Proof
end

