-- ==== Sys2Proof/Safety.lean ====
section
/-! DEFINITION. The terms that claims are stated in: a port that takes a request at once, a reply ready, what an event leaves, and the
invariants of the floor. -/

namespace Sys2Proof.Machine

/-! Requests and replies -/

/-- A port of a role that takes a request at once: its line is no break and its service slot is empty (R163, R166). -/
def State.listens (s : State) (p : Port) (role : Role) : Prop :=
  (s.port p).role = role ∧ role ≠ .off ∧ (s.port p).inBreak = false ∧ (s.port p).service = none

/-- The reply that is ready in a port's service slot. -/
def State.replyAt (s : State) (p : Port) : Option Reply := (s.port p).service.bind (·.reply)

/-- Every port is as before, but that port p has an idle assembler and another service slot. -/
def State.samePortsBut (s t : State) (p : Port) : Prop :=
  (∀ q, q ≠ p → t.port q = s.port q) ∧ t.port p = { s.port p with assembler := .idle, service := (t.port p).service }

/-- The service slot of a port holds a request with its reply ready (R158, R163). -/
def State.replied (t : State) (p : Port) (num : Byte) (r : Request) (st : Status) (d : ReplyData) : Prop :=
  (t.port p).service =
    some { num := num, request := r, reply := some { kind := r.kind, num := num, status := st, data := d } }

/-- A request taken at once is answered, and the ports change in nothing else. -/
def State.answered (s t : State) (p : Port) (num : Byte) (r : Request) (st : Status) (d : ReplyData) : Prop :=
  s.samePortsBut t p ∧ t.replied p num r st d

/-- A request taken at once is answered, and nothing else changes at all. -/
def State.onlyAnswered (s t : State) (p : Port) (num : Byte) (r : Request) (st : Status) (d : ReplyData) : Prop :=
  t = s.withPorts t.ports ∧ s.answered t p num r st d

/-- No port's role, line rate, waiting slot, line status, enable set or break state has changed, and of the service slots and
assemblers at most those of port p. -/
def State.sameLinesBut (s t : State) (p : Port) : Prop :=
  (∀ q, (t.port q).role = (s.port q).role ∧ (t.port q).waiting = (s.port q).waiting ∧ (t.port q).line = (s.port q).line ∧
    (t.port q).enabled = (s.port q).enabled ∧ (t.port q).inBreak = (s.port q).inBreak) ∧
  ∀ q, q ≠ p → (t.port q).service = (s.port q).service ∧ (t.port q).assembler = (s.port q).assembler

/-- One raise: on each selected port the cause is pending with the detail; every other notice is as before (R149). -/
def State.notified (s t : State) (who : Port → PortState → Bool) (c : Cause) (d : Detail) : Prop :=
  ∀ q e, (t.port q).notice? e = if e = c ∧ who q (s.port q) = true then some d else (s.port q).notice? e

/-- A capture at this moment raises ERROR_CAPTURED to a port: the port is STOCK, and the record is unlocked or EVERY_ERROR is on
(R154). -/
def State.tellsOfErrors (s : State) (q : Port) : Prop :=
  (s.port q).role = .stock ∧ (s.errors.locked = false ∨ s.settings.everyError = true)

/-- What a capture leaves in the error capture (R154). -/
def State.errorsAfter (s : State) (kind : ErrorKind) (port : Port) (tag : Option Tag) (tote : Option ToteNo) : ErrorCapture :=
  if s.errors.locked then { s.errors with summary := s.errors.summary.insert kind, multiple := true }
  else { s.errors with
           record := some { kind := kind, port := port, tag := tag, tote := tote, second := s.calendar.secondCount },
           locked := true, summary := s.errors.summary.insert kind }

/-- No notice set has changed. -/
def State.sameNotices (s t : State) : Prop := ∀ q e, (t.port q).notice? e = (s.port q).notice? e

/-- Every case but one is as before. -/
def State.sameCasesBut (s t : State) (tag : Tag) : Prop := ∀ u, u ≠ tag → t.case? u = s.case? u

/-- Every tote record but one is as before. -/
def State.sameTotesBut (s t : State) (tote : ToteNo) : Prop := ∀ u, u ≠ tote → t.tote u = s.tote u

/-- The row of opcode_table.json that a request is. -/
def requestInstr (p : Port) (num : Byte) : Request → Instr
  | .fetchCase t => .fetchCase p num t
  | .queryNotice => .queryNotice p num
  | .setNoticeMask m => .setNoticeMask p num m
  | .readClock => .readClock p num
  | .queryLine => .queryLine p num
  | .expectReturn a => .expectReturn p num a
  | .cancelReturn t => .cancelReturn p num t
  | .reviveCase t => .reviveCase p num t
  | .closeCase t => .closeCase p num t
  | .forceDisposition t bd g => .forceDisposition p num t bd g
  | .writeWeights c f es => .writeWeights p num c f es
  | .writeCategory c w => .writeCategory p num c w
  | .writeToteMap es => .writeToteMap p num es
  | .writeTote w => .writeTote p num w
  | .readTote t => .readTote p num t
  | .takeManifest => .takeManifest p num
  | .setClock w => .setClock p num w
  | .reseedSampler x => .reseedSampler p num x
  | .readErrors => .readErrors p num
  | .clearErrors => .clearErrors p num
  | .writeSettings w => .writeSettings p num w
  | .goLive => .goLive p num
  | .goConfig => .goConfig p num
  | .clearFloor => .clearFloor p num
  | .claimCase t => .claimCase p num t
  | .submitGrade t a o => .submitGrade p num t a o
  | .releaseCase t => .releaseCase p num t
  | .routeQuery t => .routeQuery p num t
  | .confirmPlacement t n => .confirmPlacement p num t n
  | .cancelRoute t => .cancelRoute p num t
  | .toteSwap t => .toteSwap p num t
  | .unknownKind k => .badKindRequest p num k
  | .wrongLength k => .badKindRequest p num k

/-! Deadlines and categories -/

/-- A deadline set now (R141). -/
def State.deadlineAfter (s : State) (limit : Nat) : Nat := min 4294967295 (s.calendar.secondCount + limit)

/-- A submission for a case of a category is in the grading queue or the engine (R81). -/
def State.grades (s : State) (category : Nat) : Prop :=
  ∃ x ∈ s.submissions, ∃ c, s.case? x.tag = some c ∧ c.category.val = category

/-! Invariants -/

/-- R150: each ATTN line is asserted exactly when its port has a cause both pending and enabled. -/
def AttnFollows (s : State) : Prop := ∀ p, (s.port p).attn = (s.port p).attnLevel

/-- R153: the lock is clear exactly when the record is empty, the summary is empty and MULTIPLE is clear. -/
def LockFollows (s : State) : Prop :=
  s.errors.locked = false ↔ s.errors.record = none ∧ s.errors.summary = KindSet.none ∧ s.errors.multiple = false

/-- R74: the values of a category record. -/
def CategoryRecord.inRange (r : CategoryRecord) : Prop :=
  r.tC ≤ r.tB ∧ r.tB ≤ r.tA ∧ r.tA ≤ 1000 ∧ r.window ≤ 255 ∧ r.rate ≤ 4096 ∧ r.tolerance ≤ 1000 ∧ r.wearLimit ≤ 65535

/-- R139: the values of the calendar. -/
def Calendar.inRange (c : Calendar) : Prop :=
  c.second ≤ 59 ∧ c.minute ≤ 59 ∧ c.hour ≤ 23 ∧ c.weekday ≤ 6 ∧ c.day ≤ 65535 ∧ c.secondCount ≤ 4294967295

/-- R170: the values of the settings. -/
def Settings.inRange (x : Settings) : Prop :=
  30 ≤ x.holdLimit ∧ x.holdLimit ≤ 3600 ∧ 5 ≤ x.dwellLimit ∧ x.dwellLimit ≤ 600 ∧ 1 ≤ x.expectLimit ∧ x.expectLimit ≤ 255

/-- R4: the values of a grade record. -/
def GradeRecord.inRange (g : GradeRecord) : Prop := g.deduction ≤ 65535 ∧ g.wear ≤ 65535 ∧ g.score ≤ 1000

/-- R2, R4, R26, R115: the days, the deadlines and the grade records of a case; LATE is always clear in an audit grade. -/
def Case.inRange (c : Case) : Prop :=
  c.deliveryDay ≤ 65535 ∧ c.openedDay ≤ 65535 ∧ (∀ h, c.holder = some h → h.deadline ≤ 4294967295) ∧
    (∀ r, c.reservation = some r → r.deadline ≤ 4294967295) ∧ (∀ g, c.firstGrade = some g → g.inRange) ∧
    ∀ a x, c.audit = some a → a.resolution = some x → x.grade.inRange ∧ x.grade.lateFlag = false

/-- R4, R5, R26, R44: holders, graders and auditors are BENCH ports, and so are the ports of the audit-capable set (R170). -/
def BenchOnly (s : State) : Prop :=
  (∀ p, s.auditCapable p = true → (s.port p).role = .bench) ∧ (∀ x ∈ s.submissions, (s.port x.grader).role = .bench) ∧
    ∀ t c, s.case? t = some c →
      (∀ h, c.holder = some h → (s.port h.port).role = .bench) ∧ (∀ g, c.firstGrade = some g → (s.port g.grader).role = .bench) ∧
        ∀ a x, c.audit = some a → a.resolution = some x → (s.port x.auditor).role = .bench

/-- Category records, weights, the calendar, the settings, the sampler, cases, submissions, the computation in the engine, the seconds of
error and departure records, and capacities are in the ranges the spec gives them (R73, R74, R86, R139, R170, R2, R44, R46, R153,
R135, R122). -/
def InRange (s : State) : Prop :=
  (∀ c, (s.category c).inRange) ∧ (∀ c k, (weightIn (s.weightRow c) k).weight ≤ 4095) ∧ s.calendar.inRange ∧
    s.settings.inRange ∧ s.sampler ≠ 0 ∧ BenchOnly s ∧ (∀ t c, s.case? t = some c → c.inRange) ∧
    (∀ x ∈ s.submissions, x.observations.length ≤ 16) ∧
    (∀ k, s.engine = some k → k.record.inRange ∧ ∀ n, (weightIn k.weights n).weight ≤ 4095) ∧
    (∀ e, s.errors.record = some e → e.second ≤ 4294967295) ∧ (∀ r ∈ s.outbound, r.second ≤ 4294967295) ∧
    ∀ u, 1 ≤ (s.tote u).capacity ∧ (s.tote u).capacity ≤ 32

/-- The stores are in their canonical form, and the case table and the outbound queue within their sizes (R1, R135). -/
def Canonical (s : State) : Prop :=
  s.cases.sorted = true ∧ (∀ e ∈ s.cases.entries, e.1 < 2 ^ 32) ∧ s.totes.lists Tote.unused = true ∧
    (∀ e ∈ s.totes.entries, e.1 < 256) ∧ s.toteMap.sorted = true ∧ s.categories.lists CategoryRecord.neutral = true ∧
    s.weights.lists Store.empty = true ∧ (∀ e ∈ s.weights.entries, e.2.lists WeightEntry.zero = true) ∧
    (∀ p, (s.port p).notices.sorted = true) ∧ s.cases.size ≤ 1024 ∧ s.outbound.length ≤ 16

/-- R26 and R3: a case has a holder exactly when it is ON_BENCH or ON_AUDIT, and a reservation exactly when it is ROUTED. -/
def Case.partsFit (c : Case) : Prop :=
  (c.holder.isSome = true ↔ c.state = .onBench ∨ c.state = .onAudit) ∧ (c.reservation.isSome = true ↔ c.state = .routed)

/-- The law of the grading engine (R44, R46, R169): a case is GRADING exactly when a submission for it is in the queue or the
engine; no two submissions are for one case or from one port; an IDLE engine leaves nothing waiting; CONFIG has none. -/
def GradingLaw (s : State) : Prop :=
  (∀ t c, s.case? t = some c → c.partsFit) ∧
  (∀ t c, s.case? t = some c → (c.state = .grading ↔ ∃ x ∈ s.submissions, x.tag = t)) ∧
  (∀ x ∈ s.submissions, (s.case? x.tag).isSome = true) ∧
  (s.submissions.map (·.tag)).Nodup ∧ (s.submissions.map (·.grader)).Nodup ∧
  (s.engine = none → s.gradingQueue = []) ∧
  (s.mode = .config → s.submissions = [])

/-- R5: the audit is selected and unresolved. -/
def Case.awaitsAudit (c : Case) : Prop := ∃ a, c.audit = some a ∧ a.selected = true ∧ a.resolution = none

/-- A case that has never been graded, as every case is until its first completion (R3, R12). -/
def Case.ungraded (c : Case) : Prop :=
  c.firstGrade = none ∧ c.audit = none ∧ c.finalBand = none ∧ c.refundGate = none ∧ c.lastLapsedTote = none ∧ c.routeClass = none

/-- A case with the four parts that the first completion writes (R3). -/
def Case.graded (c : Case) : Prop :=
  c.firstGrade.isSome = true ∧ c.audit.isSome = true ∧ c.finalBand.isSome = true ∧ c.refundGate.isSome = true

/-- What a case's state says of its grading so far (R3, R12, R14, R31): among it, that no port audits its own first grade. -/
def Case.historyFits (c : Case) : Prop :=
  (c.awaitsAudit → c.finalBand = some .a ∨ c.finalBand = some .b) ∧
  (∀ h g, c.state = .onAudit → c.holder = some h → c.firstGrade = some g → h.port ≠ g.grader) ∧
  (∀ a r g, c.audit = some a → a.resolution = some r → c.firstGrade = some g → r.auditor ≠ g.grader) ∧
  match c.state with
  | .expected | .lapsed | .onBench => c.ungraded
  | .grading => c.ungraded ∨ (c.graded ∧ c.awaitsAudit)
  | .graded | .placed => c.graded
  | .routed => c.graded ∧ (c.routeClass = some .audit → c.awaitsAudit)
  | .auditWait | .onAudit => c.graded ∧ c.awaitsAudit

/-- R3, R31, R44: every case's parts fit its state; a submission is FIRST exactly when its case has not been graded, and an AUDIT
submission does not come from the first grader's port. -/
def HistoryLaw (s : State) : Prop :=
  (∀ t c, s.case? t = some c → c.historyFits) ∧
  (∀ x ∈ s.submissions, ∀ c, s.case? x.tag = some c →
    (x.kind = .first ↔ c.ungraded) ∧ ∀ g, x.kind = .audit → c.firstGrade = some g → x.grader ≠ g.grader)

/-- R6: the pairs of state and location. -/
def Case.locationFits (c : Case) : Prop :=
  match c.state with
  | .placed => c.location ≠ .none
  | .auditWait => True
  | _ => c.location = .none

/-- R6, R122, R124: the pairs of state and location hold; a tag is in the manifest of a tote exactly when its case is IN_TOTE
there; a manifest has no duplicates and as many tags as the tote is filled with; an UNUSED tote is empty. -/
def ManifestLaw (s : State) : Prop :=
  (∀ t c, s.case? t = some c → c.locationFits) ∧
  (∀ u t, t ∈ (s.tote u).manifest ↔ ∃ c, s.case? t = some c ∧ c.location = .inTote u) ∧
  (∀ u, (s.tote u).manifest.Nodup ∧ (s.tote u).filled = (s.tote u).manifest.length) ∧
  (∀ u, (s.tote u).state = .unused → (s.tote u).filled = 0)

/-- The number of ROUTED cases whose reservation names a tote (R122). -/
def State.routedInto (s : State) (u : ToteNo) : Nat :=
  s.cases.entries.countP fun e => decide (e.2.state = .routed) && decide (e.2.reservation.map (·.tote) = some u)

/-- R122, R123, R126: filled plus reserved is at most the capacity, which is 1 to 32; reserved counts the ROUTED cases; each
state has its counts; no link names its own tote. -/
def CountLaw (s : State) : Prop :=
  ∀ u, (s.tote u).filled + (s.tote u).reserved ≤ (s.tote u).capacity ∧ 1 ≤ (s.tote u).capacity ∧ (s.tote u).capacity ≤ 32 ∧
    (s.tote u).reserved = s.routedInto u ∧ (s.tote u).link ≠ some u ∧
    ((s.tote u).state = .full → (s.tote u).filled = (s.tote u).capacity ∧ (s.tote u).reserved = 0) ∧
    ((s.tote u).state = .unused → (s.tote u).filled = 0 ∧ (s.tote u).reserved = 0 ∧ (s.tote u).link = none)

end Sys2Proof.Machine
end

