-- ==== Sys2Proof/Certificates/Slice0/Obligations.lean ====
section
/-! DEFINITION. The statements for the provers. Each is read from the numbered rules that its docstring names. -/

open Sys2Proof Sys2Proof.Machine

/-! The step, and what holds of every command -/

/-- The step runs the command at the front of the queue on the state with the queue's rest, and idles on an empty queue (the
idling is the model's choice, log entry 7). -/
def Obligations.StepRunsFrontCommand : Prop :=
  (∀ (c : Instr) (rest : List Instr) (s : State), s.pending = c :: rest → step s = exec c (s.withPending rest)) ∧
  (∀ s : State, s.pending = [] → step s = .next s)

/-- Every command has its effect in every state, and the queue neither bears on that effect nor is changed by it. The queue is the model's
own (log entry 8). That a command completes also in states that no run reaches, and for an event that cannot arise there, is the
model's choice (log entries 3 and 16). -/
def Obligations.ExecLeavesTheQueue : Prop :=
  ∀ (c : Instr) (s : State) (q : List Instr),
    ∃ t, exec c s = .next t ∧ t.pending = s.pending ∧ exec c (s.withPending q) = .next (t.withPending q)

/-- R139, R118, R157: the second count is moved by second events alone and by device reset, the stopped flag by the edges of STOP
and device reset, the roles and the line rate by device reset alone. -/
def Obligations.PinsAndCountChangeOnlyByTheirEvents : Prop :=
  ∀ (c : Instr) (s t : State), exec c s = .next t → (∀ roles rate stop, c ≠ .deviceReset roles rate stop) →
    (∀ p, (t.port p).role = (s.port p).role) ∧ t.lineRate = s.lineRate ∧
    (c ≠ .stopRise → c ≠ .stopFall → t.stopped = s.stopped) ∧
    (c ≠ .secondEvent → c ≠ .midnightRollover → t.calendar.secondCount = s.calendar.secondCount) ∧
    (c = .secondEvent → t.calendar.secondCount = min 4294967295 (s.calendar.secondCount + 1))

/-- R2: the category, the sku family, the declared attributes and the delivery day of a case are fixed for its life; and its opened
day is never changed but to today. -/
def Obligations.CaseFieldsFixedForLife : Prop :=
  ∀ (i : Instr) (s t : State) (tag : Tag) (c c' : Case),
    exec i s = .next t → s.case? tag = some c → t.case? tag = some c' →
      c'.category = c.category ∧ c'.sku = c.sku ∧ c'.declared = c.declared ∧ c'.deliveryDay = c.deliveryDay ∧
      (c'.openedDay = c.openedDay ∨ c.state = .lapsed ∧ c'.state = .expected ∧ c'.openedDay = s.calendar.day)

/-- R172, R157, R120: device reset brings every piece of state to its value after device reset, with the roles, the rate and the
stopped flag as sampled. The queue and the free-value counter are the model's own and go on (log entry 5); that no port is
within a break after it, and that it is one command carrying the sampled levels, is the model's reading (log entry 12). -/
def Obligations.DeviceResetSetsEveryPart : Prop :=
  ∀ (roles : BitVec 16) (rate : BitVec 2) (stop : Bool) (s : State), ∃ t, exec (.deviceReset roles rate stop) s = .next t ∧
    (∀ tag, t.case? tag = none) ∧ t.cases.size = 0 ∧ t.gradingQueue = [] ∧ t.engine = none ∧
    (∀ c k, weightIn (t.weightRow c) k = { weight := 0, wear := false }) ∧
    (∀ c, t.category c = { step := .zero, tA := 900, tB := 700, tC := 400, window := 0, rate := 0, tolerance := 50,
                           mask := { size := false, colour := false, label := false, material := false, fitted := false },
                           wearLimit := 0 }) ∧
    t.sampler = 0x5A3C ∧ (∀ cls c, t.mapEntry cls c = none) ∧ t.stopped = stop ∧
    (∀ u, t.tote u = { state := .unused, capacity := 32, filled := 0, reserved := 0, link := none, manifest := [] }) ∧
    t.outbound = [] ∧
    t.calendar = { second := 0, minute := 0, hour := 0, weekday := 0, day := 0, secondCount := 0, sweep := none } ∧
    (∀ p : Port, (t.port p).role = (match roles.getLsbD (2 * p.val + 1), roles.getLsbD (2 * p.val) with
        | false, false => .off
        | false, true => .bench
        | true, false => .induct
        | true, true => .stock) ∧
      (t.port p).assembler = .idle ∧ (t.port p).service = none ∧ (t.port p).waiting = none ∧
      (t.port p).line = { parity := false, framing := false, check := false, length := false, gap := false, overrun := false } ∧
      (∀ e, (t.port p).notice? e = none) ∧ (t.port p).enabled = 0 ∧ (t.port p).attn = false ∧ (t.port p).inBreak = false) ∧
    t.errors.record = none ∧ t.errors.locked = false ∧ t.errors.multiple = false ∧ (∀ k, t.errors.summary.has k = false) ∧
    t.mode = .config ∧
    t.settings = { holdLimit := 600, dwellLimit := 90, expectLimit := 30, everyError := false, auditCapable := 0 } ∧
    (t.lineRate = match rate.toNat with
      | 0 => .r19200
      | 1 => .r57600
      | 2 => .r115200
      | _ => .r230400) ∧
    t.pending = s.pending ∧ t.freeCount = s.freeCount

/-- The state after reset meets the invariants that every step keeps. -/
def Obligations.ResetMeetsTheInvariants : Prop :=
  AttnFollows State.reset ∧ LockFollows State.reset ∧ InRange State.reset ∧ Canonical State.reset ∧
    GradingLaw State.reset ∧ HistoryLaw State.reset ∧ ManifestLaw State.reset ∧ CountLaw State.reset

/-! Return cases -/

/-- R8: the checks of Expect Return in their order, and the case it opens. -/
def Obligations.ExpectReturnOpensCase : Prop :=
  ∀ (s : State) (p : Port) (num : Byte) (a : Announcement), s.listens p .stock →
    ∃ t, exec (.expectReturn p num a) s = .next t ∧
      if a.tag = 0 ∨ 15 < a.category.toNat ∨ 63 < a.size.toNat ∨ 63 < a.material.toNat then
        s.onlyAnswered t p num (.expectReturn a) .badValue .none
      else match s.case? a.tag with
        | some c => s.onlyAnswered t p num (.expectReturn a) .duplicate (.caseState c.state)
        | none =>
          if 1024 ≤ s.cases.size then s.onlyAnswered t p num (.expectReturn a) .tableFull .none
          else
            s.answered t p num (.expectReturn a) .ok .none ∧ t = (s.withCases t.cases).withPorts t.ports ∧
            s.sameCasesBut t a.tag ∧ t.cases.size = s.cases.size + 1 ∧
            ∃ c, t.case? a.tag = some c ∧ c.state = .expected ∧ c.category.val = a.category.toNat ∧ c.sku = a.sku ∧
              c.declared.size.toNat = a.size.toNat ∧ c.declared.colour = a.colour ∧ c.declared.label = a.label ∧
              c.declared.material.toNat = a.material.toNat ∧ c.declared.fitted = a.fitted ∧
              c.deliveryDay = a.delivery.toNat ∧ c.openedDay = s.calendar.day ∧ c.override = false ∧ c.location = .none ∧
              c.holder = none ∧ c.lastLapsedHolder = none ∧ c.firstGrade = none ∧ c.audit = none ∧ c.finalBand = none ∧
              c.refundGate = none ∧ c.reservation = none ∧ c.lastLapsedTote = none ∧ c.routeClass = none

/-- R10, R12, R19: Cancel Return takes an EXPECTED or LAPSED case from the table, Close Case a LAPSED one or a PLACED one that has departed
(that the tag then leaves the set of a sweep in flight is log entry 6; what happens when this empties the set, `SweepVisitsEachCaseOnce`
says); every refusal is as it is whatever the sweep. Revive Case brings a LAPSED case back
to EXPECTED with opened day today, and changes nothing else of it. -/
def Obligations.CancelCloseAndReviveCases : Prop :=
  (∀ (s : State) (p : Port) (num : Byte) (tag : Tag), s.listens p .stock →
    let taken := fun (t : State) (r : Request) =>
      t.replied p num r .ok .none ∧ t.case? tag = none ∧ s.sameCasesBut t tag ∧ t.cases.size < s.cases.size ∧
        ((∀ set, s.calendar.sweep = some set → tag ∈ set → ∃ u ∈ set, u ≠ tag) → s.answered t p num r .ok .none ∧
          t = ((s.withCases t.cases).withCalendar
            { s.calendar with sweep := s.calendar.sweep.map fun set => set.filter fun u => u ≠ tag }).withPorts t.ports)
    (∃ t, exec (.cancelReturn p num tag) s = .next t ∧
      match s.case? tag with
      | none => s.onlyAnswered t p num (.cancelReturn tag) .unknownTag .none
      | some c =>
        if c.state = .expected ∨ c.state = .lapsed then taken t (.cancelReturn tag)
        else s.onlyAnswered t p num (.cancelReturn tag) .wrongState (.caseState c.state)) ∧
    (∃ t, exec (.closeCase p num tag) s = .next t ∧
      match s.case? tag with
      | none => s.onlyAnswered t p num (.closeCase tag) .unknownTag .none
      | some c =>
        if c.state = .lapsed ∨ c.state = .placed ∧ c.location = .departed then taken t (.closeCase tag)
        else s.onlyAnswered t p num (.closeCase tag) .wrongState (.stateLocation c.state c.location))) ∧
  (∀ (s : State) (p : Port) (num : Byte) (tag : Tag), s.listens p .stock →
    ∃ t, exec (.reviveCase p num tag) s = .next t ∧
      match s.case? tag with
      | none => s.onlyAnswered t p num (.reviveCase tag) .unknownTag .none
      | some c =>
        if c.state = .lapsed then
          s.answered t p num (.reviveCase tag) .ok .none ∧ t = (s.withCases t.cases).withPorts t.ports ∧
          t.case? tag = some { c with state := .expected, openedDay := s.calendar.day } ∧ s.sameCasesBut t tag
        else s.onlyAnswered t p num (.reviveCase tag) .wrongState (.caseState c.state))

/-- R21, R22: Force Disposition, its checks in their order, and the removal of the tag from a manifest (`ManifestRemovalSettlesTheTote`
says what the removal does to the tote). -/
def Obligations.ForceDispositionFreesQuarantinedCase : Prop :=
  ∀ (s : State) (p : Port) (num : Byte) (tag : Tag) (band gate : Byte), s.listens p .stock →
    ∃ t, exec (.forceDisposition p num tag band gate) s = .next t ∧
      if 3 < band.toNat ∨ 1 < gate.toNat then s.onlyAnswered t p num (.forceDisposition tag band gate) .badValue .none
      else match s.case? tag with
        | none => s.onlyAnswered t p num (.forceDisposition tag band gate) .unknownTag .none
        | some c =>
          if (c.state = .graded ∨ c.state = .placed) ∧ c.finalBand = some .q then
            ∃ bd g, bd.code = band.toNat ∧ g.code = gate.toNat ∧
              t.replied p num (.forceDisposition tag band gate) .ok .none ∧
              t.case? tag = some { c with finalBand := some bd, refundGate := some g, override := true, state := .graded,
                                          location := .none } ∧
              s.sameCasesBut t tag ∧ t.totes = (s.leaveTote c.location tag).totes ∧
              (∀ q e, (t.port q).notice? e = ((s.leaveTote c.location tag).port q).notice? e) ∧ s.sameLinesBut t p ∧
              t = ((s.withCases t.cases).withTotes t.totes).withPorts t.ports
          else s.onlyAnswered t p num (.forceDisposition tag band gate) .wrongState (.stateBand c.state c.finalBand)

/-- R16, R17: Fetch Case answers with the record as it stands, or to a BENCH port with the blind view while the audit is unresolved,
and changes nothing. (The marks `due`, the model's own, are not shown: log entry 4.) -/
def Obligations.FetchCaseShowsTheRecord : Prop :=
  ∀ (s : State) (p : Port) (role : Role) (num : Byte) (tag : Tag), s.listens p role →
    ∃ t, exec (.fetchCase p num tag) s = .next t ∧
      match s.case? tag with
      | none => s.onlyAnswered t p num (.fetchCase tag) .unknownTag .none
      | some c =>
        (¬ (role = .bench ∧ c.awaitsAudit) → s.onlyAnswered t p num (.fetchCase tag) .ok (.caseRecord tag c.shown)) ∧
        (role = .bench ∧ c.awaitsAudit → s.onlyAnswered t p num (.fetchCase tag) .ok (.caseRecord tag
          { c.shown with firstGrade := none, finalBand := none, refundGate := none }))

/-- R17: while an audit is unresolved, nothing in a BENCH port's Fetch Case reply depends on the first verdict. -/
def Obligations.BlindViewHidesTheVerdict : Prop :=
  ∀ (s s' t t' : State) (p : Port) (num : Byte) (tag : Tag) (c c' : Case),
    s.listens p .bench → s'.listens p .bench → s.case? tag = some c → s'.case? tag = some c' → c.awaitsAudit → c'.awaitsAudit →
    c' = { c with firstGrade := c'.firstGrade, finalBand := c'.finalBand, refundGate := c'.refundGate } →
    exec (.fetchCase p num tag) s = .next t → exec (.fetchCase p num tag) s' = .next t' → t.replyAt p = t'.replyAt p

/-! Bench holds -/

/-- R27 to R30: a claim on any case but an AUDIT_WAIT one. -/
def Obligations.ClaimCaseTakesOrRenews : Prop :=
  ∀ (s : State) (p : Port) (num : Byte) (tag : Tag), s.listens p .bench → s.mode = .live →
    (∀ c, s.case? tag = some c → c.partsFit ∧ c.state ≠ .auditWait) →
    ∃ t, exec (.claimCase p num tag) s = .next t ∧
      match s.case? tag with
      | none => s.onlyAnswered t p num (.claimCase tag) .unknownTag .none
      | some c =>
        let deadline := s.deadlineAfter s.settings.holdLimit
        (c.state = .expected →
          s.answered t p num (.claimCase tag) .ok (.claimed c.category c.sku c.declared deadline) ∧
          t = (s.withCases t.cases).withPorts t.ports ∧ s.sameCasesBut t tag ∧
          t.case? tag = some { c with holder := some { port := p, deadline := deadline, due := false },
                                      lastLapsedHolder := none, state := .onBench }) ∧
        (c.state = .onBench ∨ c.state = .onAudit → ∃ h, c.holder = some h ∧
          (h.port = p →
            s.answered t p num (.claimCase tag) .renewed (.claimed c.category c.sku c.declared deadline) ∧
            t = (s.withCases t.cases).withPorts t.ports ∧ s.sameCasesBut t tag ∧
            t.case? tag = some { c with holder := some { port := p, deadline := deadline, due := false } }) ∧
          (h.port ≠ p → s.onlyAnswered t p num (.claimCase tag) .heldElsewhere (.holderPort h.port))) ∧
        (c.state = .lapsed → s.onlyAnswered t p num (.claimCase tag) .caseLapsed .none) ∧
        (c.state = .grading ∨ c.state = .graded ∨ c.state = .routed ∨ c.state = .placed →
          s.onlyAnswered t p num (.claimCase tag) .wrongState (.caseState c.state))

/-- R31, R32: the checks of an audit claim in their order, and the claim, which takes the case from its tote
(`ManifestRemovalSettlesTheTote` says what that does to the tote). -/
def Obligations.AuditClaimTakesCaseFromTote : Prop :=
  ∀ (s : State) (p : Port) (num : Byte) (tag : Tag) (c : Case), s.listens p .bench → s.mode = .live →
    s.case? tag = some c → c.state = .auditWait →
    ∃ t, exec (.claimCase p num tag) s = .next t ∧
      if s.settings.auditCapable.getLsbD p.val = false then s.onlyAnswered t p num (.claimCase tag) .notAuditor .none
      else if ∃ g, c.firstGrade = some g ∧ g.grader = p then s.onlyAnswered t p num (.claimCase tag) .sameGrader .none
      else
        let deadline := s.deadlineAfter s.settings.holdLimit
        t.replied p num (.claimCase tag) .ok (.claimed c.category c.sku c.declared deadline) ∧
        t.case? tag = some { c with holder := some { port := p, deadline := deadline, due := false }, lastLapsedHolder := none,
                                    state := .onAudit, location := .none } ∧
        s.sameCasesBut t tag ∧ t.totes = (s.leaveTote c.location tag).totes ∧
        (∀ q e, (t.port q).notice? e = ((s.leaveTote c.location tag).port q).notice? e) ∧ s.sameLinesBut t p ∧
        t = ((s.withCases t.cases).withTotes t.totes).withPorts t.ports

/-- R125: what the removal of a tag from a manifest does to the tote, by its state, and when SWAP_DONE is raised. A case with location
NONE or DEPARTED touches no tote. -/
def Obligations.ManifestRemovalSettlesTheTote : Prop :=
  (∀ (s : State) (tag : Tag), s.leaveTote .none tag = s ∧ s.leaveTote .departed tag = s) ∧
  ∀ (s : State) (u : ToteNo) (tag : Tag),
    let k := s.tote u
    let t := s.leaveTote (.inTote u) tag
    let shorter := { k with filled := k.filled - 1, manifest := k.manifest.erase tag }
    t = (s.withTotes t.totes).withPorts t.ports ∧ s.sameTotesBut t u ∧
    (k.state = .opened → t.tote u = shorter ∧ s.sameNotices t) ∧
    (k.state = .full → t.tote u = { shorter with state := .opened } ∧ s.sameNotices t) ∧
    (k.state = .draining → 0 < k.reserved → t.tote u = shorter ∧ s.sameNotices t) ∧
    (k.state = .draining → k.reserved = 0 → k.manifest.erase tag ≠ [] → t.tote u = shorter ∧ s.sameNotices t) ∧
    (k.state = .draining → k.reserved = 0 → k.manifest.erase tag = [] → t.tote u = { shorter with state := .opened } ∧
      s.notified t (fun _ x => decide (x.role = .induct ∨ x.role = .stock)) .swapDone (.tote u))

/-- R34: Release Case by the holder returns the case; from any other port it is refused. -/
def Obligations.ReleaseCaseReturnsHeldCase : Prop :=
  ∀ (s : State) (p : Port) (num : Byte) (tag : Tag), s.listens p .bench → s.mode = .live →
    (∀ c, s.case? tag = some c → c.partsFit) →
    ∃ t, exec (.releaseCase p num tag) s = .next t ∧
      match s.case? tag with
      | none => s.onlyAnswered t p num (.releaseCase tag) .unknownTag .none
      | some c =>
        if c.holder.map (·.port) = some p then
          t.replied p num (.releaseCase tag) .ok .none ∧ s.sameLinesBut t p ∧ t = (s.withCases t.cases).withPorts t.ports ∧
          s.sameCasesBut t tag ∧
          (c.state = .onBench → t.case? tag = some { c with holder := none, state := .expected } ∧ s.sameNotices t) ∧
          (c.state = .onAudit → t.case? tag = some { c with holder := none, state := .auditWait, location := .none } ∧
            s.notified t (fun q _ => s.settings.auditCapable.getLsbD q.val) .auditReady (.tag tag))
        else s.onlyAnswered t p num (.releaseCase tag) .notHolder (.stateHolder c.state (c.holder.map (·.port)))

/-- R35, R36: a hold whose deadline the last second event reached lapses: the case returns, the lapse is captured and raised. The mark
`due` is the model's (log entry 4); that a case without a hold so marked is left as it is, is its choice (log entry 3). -/
def Obligations.HoldLapseReturnsAndReports : Prop :=
  (∀ (s : State) (tag : Tag) (c : Case) (h : Hold), s.case? tag = some c → c.holder = some h → h.due = true → c.partsFit →
    ∃ t, exec (.holdLapse tag) s = .next t ∧ (c.state = .onBench ∨ c.state = .onAudit) ∧
      t.case? tag = some { c with holder := none, lastLapsedHolder := some h.port,
                                  state := if c.state = .onBench then .expected else .auditWait,
                                  location := if c.state = .onAudit then .none else c.location } ∧
      s.sameCasesBut t tag ∧ t.errors = s.errorsAfter .holdLapsed h.port (some tag) none ∧
      (∀ q, (t.port q).notice? .holdLapsed =
        if q = h.port ∨ (s.port q).role = .stock then some (.tag tag) else (s.port q).notice? .holdLapsed) ∧
      (∀ q, (s.tellsOfErrors q → (t.port q).notice? .errorCaptured = some (.error .holdLapsed)) ∧
        (¬ s.tellsOfErrors q → (t.port q).notice? .errorCaptured = (s.port q).notice? .errorCaptured)) ∧
      (∀ q, (t.port q).notice? .auditReady =
        if c.state = .onAudit ∧ s.settings.auditCapable.getLsbD q.val = true then some (.tag tag)
        else (s.port q).notice? .auditReady) ∧
      (∀ q e, e ≠ .holdLapsed → e ≠ .errorCaptured → e ≠ .auditReady → (t.port q).notice? e = (s.port q).notice? e) ∧
      (∀ q, s.sameLinesBut t q) ∧ t = ((s.withCases t.cases).withErrors t.errors).withPorts t.ports) ∧
  (∀ (s : State) (tag : Tag), (∀ c h, s.case? tag = some c → c.holder = some h → h.due = false) →
    exec (.holdLapse tag) s = .next s)

/-- R38, R39, R45, R46: Submit Grade, its checks in their order; a taken one ends the hold, makes the case GRADING and joins the tail
of the queue, or goes at once to an IDLE engine with an empty queue. -/
def Obligations.SubmitGradeJoinsTheQueue : Prop :=
  ∀ (s : State) (p : Port) (num : Byte) (tag : Tag) (observed : Attributes) (obs : List Observation),
    s.listens p .bench → s.mode = .live → obs.length ≤ 16 →
    let r := Request.submitGrade tag observed obs
    ∃ t, exec (.submitGrade p num tag observed obs) s = .next t ∧
      match s.case? tag with
      | none => s.onlyAnswered t p num r .unknownTag .none
      | some c =>
        if c.holder.map (·.port) = some p then
          if ∃ x ∈ s.submissions, x.grader = p then s.onlyAnswered t p num r .busy .none
          else
            let sub : Submission := { tag := tag, grader := p, kind := if c.state = .onAudit then .audit else .first,
                                      observed := observed, observations := obs }
            s.samePortsBut t p ∧ (t.port p).service = some { num := num, request := r, reply := none } ∧
            t.case? tag = some { c with holder := none, state := .grading } ∧ s.sameCasesBut t tag ∧
            (s.engine ≠ none → t.engine = s.engine ∧ t.gradingQueue = s.gradingQueue ++ [sub]) ∧
            (s.engine = none → s.gradingQueue = [] → t.gradingQueue = [] ∧
              t.engine = some { submission := sub, category := c.category, declared := c.declared,
                                record := s.category c.category, weights := s.weightRow c.category }) ∧
            t = (((s.withCases t.cases).withGradingQueue t.gradingQueue).withEngine t.engine).withPorts t.ports
        else if c.lastLapsedHolder = some p then
          s.onlyAnswered t p num r .lapsedHold (.stateHolder c.state (c.holder.map (·.port)))
        else s.onlyAnswered t p num r .notHolder (.stateHolder c.state (c.holder.map (·.port)))

/-! Grading -/

/-- R46: an IDLE engine takes the oldest submission with the tables and the case's fields as they stand, and nothing else changes. That a
COMPUTATION_START at a COMPUTING engine or an empty queue leaves everything as it is, is the model's choice (log entry 3). -/
def Obligations.EngineTakesOldestSubmission : Prop :=
  (∀ (s : State) (x : Submission) (rest : List Submission) (c : Case), s.engine = none → s.gradingQueue = x :: rest →
    s.case? x.tag = some c →
    exec .computationStart s = .next ((s.withGradingQueue rest).withEngine
      (some { submission := x, category := c.category, declared := c.declared, record := s.category c.category,
              weights := s.weightRow c.category }))) ∧
  (∀ s : State, s.engine ≠ none ∨ s.gradingQueue = [] → exec .computationStart s = .next s)

/-- R53, R54: the product of weight and severity, its bound, and the scaled product of each scale step with its range. -/
def Obligations.ScaledProductOfAnObservation : Prop :=
  ∀ (k : ScaleStep) (row : Store WeightEntry) (o : Observation), (weightIn row o.defect.toNat).weight ≤ 4095 →
    let product := (weightIn row o.defect.toNat).weight * min 7 o.severity.toNat
    product ≤ 28665 ∧
    contribution k row o = (match k with
      | .minusTwo => product / 4
      | .minusOne => product / 2
      | .zero => product
      | .plusOne => 2 * product) ∧
    contribution k row o ≤ (match k with
      | .minusTwo => 7166
      | .minusOne => 14332
      | .zero => 28665
      | .plusOne => 57330)

/-- R55 (with the skipping of R52): the deduction is the sum of the scaled products held at 65535, CEILING is set exactly when the sum is
above it, and neither depends on the order of the list. -/
def Obligations.DeductionIsCappedSum : Prop :=
  ∀ (k : ScaleStep) (row : Store WeightEntry) (obs : List Observation),
    let sum := ((obs.filter fun o => decide (o.severity ≠ 0)).map (contribution k row)).sum
    (tallyOf k row obs).deduction = min 65535 sum ∧ (tallyOf k row obs).ceilingFlag = decide (65535 < sum) ∧
    (tallyOf k row obs).wear ≤ 65535 ∧
    ∀ obs', obs.Perm obs' → tallyOf k row obs' = tallyOf k row obs

/-- R52, R56: the wear sum is the capped sum over the classes with the wear mark and is never above the deduction; CLAMPED is set exactly
when a severity was above 7. -/
def Obligations.WearSumIsCappedAndBelowDeduction : Prop :=
  ∀ (k : ScaleStep) (row : Store WeightEntry) (obs : List Observation),
    (tallyOf k row obs).wear = min 65535
      ((obs.filter fun o => decide (o.severity ≠ 0) && (weightIn row o.defect.toNat).wear).map (contribution k row)).sum ∧
    (tallyOf k row obs).wear ≤ (tallyOf k row obs).deduction ∧
    (tallyOf k row obs).clampedFlag = obs.any fun o => decide (7 < o.severity.toNat)

/-- R57, R58: the points of a computation's deduction, halves rounded up, its score, and FLOOR, which CEILING always brings with it. The
deduction, the wear sum, CEILING and CLAMPED are those of the list (R51; `DeductionIsCappedSum` and `WearSumIsCappedAndBelowDeduction` say
what they are), and the grader is the submission's port (R4, R65, R66). -/
def Obligations.ScoreOfAComputation : Prop :=
  ∀ (k : Computation) (late : Bool),
    let g := k.grade late
    let y := tallyOf k.record.step k.weights k.submission.observations
    let points := (g.deduction + 8) / 16
    g.grader = k.submission.grader ∧ g.deduction = y.deduction ∧ g.wear = y.wear ∧ g.ceilingFlag = y.ceilingFlag ∧
    g.clampedFlag = y.clampedFlag ∧ g.lateFlag = late ∧
    g.deduction ≤ 65535 ∧ points ≤ 4096 ∧ g.score ≤ 1000 ∧
    (points ≤ 1000 → g.score = 1000 - points ∧ g.floorFlag = false) ∧
    (1000 < points → g.score = 0 ∧ g.floorFlag = true) ∧ (g.ceilingFlag = true → g.floorFlag = true)

/-- R59: the band of each score, the bands that equal or zero thresholds leave out, and the thresholds after device reset. -/
def Obligations.BandOfAScore : Prop :=
  (∀ c, let n := State.reset.category c; n.tA = 900 ∧ n.tB = 700 ∧ n.tC = 400) ∧
  ∀ (r : CategoryRecord) (score : Nat), r.tC ≤ r.tB → r.tB ≤ r.tA → r.tA ≤ 1000 →
    (r.tA ≤ score → bandOf r score = .a) ∧ (score < r.tA → r.tB ≤ score → bandOf r score = .b) ∧
    (score < r.tB → r.tC ≤ score → bandOf r score = .c) ∧ (score < r.tC → bandOf r score = .d) ∧
    (r.tA = r.tB → bandOf r score ≠ .b) ∧ (r.tB = r.tC → bandOf r score ≠ .c) ∧ (r.tC = 0 → bandOf r score ≠ .d) ∧
    (r.tA = 0 → bandOf r score = .a)

/-- R60, R61, R62: the mismatch set, WEAR, and the band Q, which replaces the score band alone: the score, the sums and the other flags
follow from the list, the weights and the scale step, whatever the mask, the wear limit and the declared attributes. -/
def Obligations.MismatchAndWearOverrideTheBand : Prop :=
  ∀ (k : Computation) (late : Bool),
    let g := k.grade late
    let mask := k.record.mask
    let seen := k.submission.observed
    (g.mismatch.size = true ↔ mask.size = true ∧ seen.size ≠ k.declared.size) ∧
    (g.mismatch.colour = true ↔ mask.colour = true ∧ seen.colour ≠ k.declared.colour) ∧
    (g.mismatch.label = true ↔ mask.label = true ∧ seen.label ≠ k.declared.label) ∧
    (g.mismatch.material = true ↔ mask.material = true ∧ seen.material ≠ k.declared.material) ∧
    (g.mismatch.fitted = true ↔ mask.fitted = true ∧ seen.fitted ≠ k.declared.fitted) ∧
    (g.wearFlag = true ↔ 0 < k.record.wearLimit ∧ k.record.wearLimit ≤ g.wear) ∧
    (g.band = .q ↔ g.wearFlag = true ∨
      ¬ (g.mismatch = { size := false, colour := false, label := false, material := false, fitted := false })) ∧
    (g.band ≠ .q → g.band = bandOf k.record g.score) ∧
    ∀ k' : Computation, k'.submission = k.submission → k'.weights = k.weights → k'.record.step = k.record.step →
      let g' := k'.grade late
      g'.score = g.score ∧ g'.deduction = g.deduction ∧ g'.wear = g.wear ∧ g'.ceilingFlag = g.ceilingFlag ∧
        g'.floorFlag = g.floorFlag ∧ g'.clampedFlag = g.clampedFlag

/-- R63, R64, R65, R68, R69, R87, R88: completion of a first grade: the record, the sampler's step and the selection, the three fields,
QUARANTINED, the reply when the Submit Grade is still in service, and the start of the next computation. That the command changes nothing
when the engine computes no first grade is the model's choice (log entry 3). -/
def Obligations.FirstGradeCompletionWritesResults : Prop :=
  (∀ (s : State) (k : Computation) (c : Case), s.engine = some k → k.submission.kind = .first →
    s.case? k.submission.tag = some c →
    let tag := k.submission.tag
    let late := decide (0 < k.record.window ∧ c.deliveryDay ≤ s.calendar.day ∧ k.record.window < s.calendar.day - c.deliveryDay)
    let g := k.grade late
    ∃ (t : State) (selected : Bool) (c' : Case), exec .firstGradeCompletion s = .next t ∧ g.lateFlag = late ∧
      (g.band = .a ∨ g.band = .b → t.sampler = samplerStep s.sampler ∧ (selected = true ↔ t.sampler.toNat % 4096 < k.record.rate)) ∧
      (g.band ≠ .a → g.band ≠ .b → t.sampler = s.sampler ∧ selected = false) ∧
      c' = { c with firstGrade := some g, audit := some { selected := selected, resolution := none }, finalBand := some g.band,
                    refundGate := some (if g.band = .q ∨ late = true ∨ selected = true then .hold else .release),
                    state := .graded } ∧
      t.case? tag = some c' ∧ s.sameCasesBut t tag ∧
      (g.band = .q → s.notified t (fun _ x => decide (x.role = .stock)) .quarantined (.tag tag)) ∧
      (g.band ≠ .q → s.sameNotices t) ∧
      (∀ num o obs, (s.port k.submission.grader).service = some { num := num, request := .submitGrade tag o obs, reply := none } →
        t.replied k.submission.grader num (.submitGrade tag o obs) .ok (.graded
          { tag := tag, kind := .first, grade := g, selected := selected, outcome := none, finalBand := some g.band,
            cls := c'.classCalledFor })) ∧
      ((∀ num o obs, (s.port k.submission.grader).service ≠ some { num := num, request := .submitGrade tag o obs, reply := none }) →
        (t.port k.submission.grader).service = (s.port k.submission.grader).service) ∧
      (∀ q, (t.port q).assembler = (s.port q).assembler) ∧ s.sameLinesBut t k.submission.grader ∧
      exec .computationStart ((t.withEngine none).withGradingQueue s.gradingQueue) = .next t ∧
      t = ((((s.withCases t.cases).withSampler t.sampler).withEngine t.engine).withGradingQueue t.gradingQueue).withPorts t.ports) ∧
  (∀ s : State, (∀ k, s.engine = some k → k.submission.kind = .audit) → exec .firstGradeCompletion s = .next s)

/-- R66, R68, R69, R96, R97: completion of an audit grade: the resolution, the agreement rule, the final band, the gate, AUDIT_DISPUTE and
QUARANTINED, the reply, and the start of the next computation. The sampler and the first grade record stay. That the command changes
nothing when the engine computes no audit grade is the model's choice (log entry 3). -/
def Obligations.AuditGradeCompletionResolves : Prop :=
  (∀ (s : State) (k : Computation) (c : Case) (first : GradeRecord) (a : AuditPart) (b1 : Band), s.engine = some k →
    k.submission.kind = .audit → s.case? k.submission.tag = some c → c.firstGrade = some first → c.audit = some a →
    c.finalBand = some b1 →
    let tag := k.submission.tag
    let g := k.grade false
    ∃ (t : State) (outcome : AuditOutcome) (bd : Band) (c' : Case), exec .auditGradeCompletion s = .next t ∧ g.lateFlag = false ∧
      (outcome = .agree ↔
        first.band = g.band ∧ first.score ≤ g.score + k.record.tolerance ∧ g.score ≤ first.score + k.record.tolerance) ∧
      bd = (if outcome = .agree then b1 else g.band) ∧
      c' = { c with audit := some { selected := a.selected,
                                    resolution := some { auditor := k.submission.grader, grade := g, outcome := outcome } },
                    finalBand := some bd, refundGate := some (if bd = .q ∨ first.lateFlag = true then .hold else .release),
                    state := .graded } ∧
      t.case? tag = some c' ∧ s.sameCasesBut t tag ∧ t.sampler = s.sampler ∧
      (∀ q e, (t.port q).notice? e =
        if (s.port q).role = .stock ∧ (e = .auditDispute ∧ outcome = .dispute ∨ e = .quarantined ∧ bd = .q) then some (.tag tag)
        else (s.port q).notice? e) ∧
      (∀ num o obs, (s.port k.submission.grader).service = some { num := num, request := .submitGrade tag o obs, reply := none } →
        t.replied k.submission.grader num (.submitGrade tag o obs) .ok (.graded
          { tag := tag, kind := .audit, grade := g, selected := true, outcome := some outcome, finalBand := some bd,
            cls := c'.classCalledFor })) ∧
      ((∀ num o obs, (s.port k.submission.grader).service ≠ some { num := num, request := .submitGrade tag o obs, reply := none }) →
        (t.port k.submission.grader).service = (s.port k.submission.grader).service) ∧
      (∀ q, (t.port q).assembler = (s.port q).assembler) ∧ s.sameLinesBut t k.submission.grader ∧
      exec .computationStart ((t.withEngine none).withGradingQueue s.gradingQueue) = .next t ∧
      t = (((s.withCases t.cases).withEngine t.engine).withGradingQueue t.gradingQueue).withPorts t.ports) ∧
  (∀ s : State, (∀ k, s.engine = some k → k.submission.kind = .first) → exec .auditGradeCompletion s = .next s)

/-- R87: one step of the sampler; it never reaches zero, and from any non-zero state it passes through all 65535 before it returns. -/
def Obligations.SamplerStepVisitsEveryValue : Prop :=
  (∀ x : BitVec 16, (samplerStep x).toNat =
    (2 * x.toNat + (x.toNat / 32768 + x.toNat / 8192 + x.toNat / 4096 + x.toNat / 1024) % 2) % 65536) ∧
  (∀ x : BitVec 16, x ≠ 0 → samplerStep x ≠ 0) ∧ samplerStep 0x8000 = 0x0001 ∧
  (∀ x y : BitVec 16, x ≠ 0 → y ≠ 0 → ∃ n, n < 65535 ∧ samplerStep^[n] x = y) ∧
  (∀ x : BitVec 16, x ≠ 0 → samplerStep^[65535] x = x ∧ ∀ n, 0 < n → n < 65535 → samplerStep^[n] x ≠ x)

/-! Grading tables -/

/-- R76, R77, R81: Write Weights, its checks in their order, and the run it writes. -/
def Obligations.WriteWeightsWritesItsRun : Prop :=
  ∀ (s : State) (p : Port) (num : Byte) (category first : Byte) (es : List WeightWrite), s.listens p .stock →
    1 ≤ es.length → es.length ≤ 16 →
    let r := Request.writeWeights category first es
    ∃ t, exec (.writeWeights p num category first es) s = .next t ∧
      (15 < category.toNat ∨ 64 < first.toNat + es.length ∨ (∃ e ∈ es, 4095 < e.weight.toNat) →
        s.onlyAnswered t p num r .badValue .none) ∧
      (category.toNat ≤ 15 → first.toNat + es.length ≤ 64 → (∀ e ∈ es, e.weight.toNat ≤ 4095) → s.grades category.toNat →
        s.onlyAnswered t p num r .tableInUse .none) ∧
      (category.toNat ≤ 15 → first.toNat + es.length ≤ 64 → (∀ e ∈ es, e.weight.toNat ≤ 4095) → ¬ s.grades category.toNat →
        s.answered t p num r .ok .none ∧ t = (s.withWeights t.weights).withPorts t.ports ∧
        ∀ (c : Fin 16) (k : Nat), weightIn (t.weightRow c) k =
          if c.val = category.toNat ∧ first.toNat ≤ k then
            match es[k - first.toNat]? with
            | some e => { weight := e.weight.toNat, wear := e.wear }
            | none => weightIn (s.weightRow c) k
          else weightIn (s.weightRow c) k)

/-- R78, R79, R80, R81: Write Category, its checks in their order, the cutting down, and the record it stores. A scale step is a signed
character. -/
def Obligations.WriteCategoryStoresTheRecord : Prop :=
  ∀ (s : State) (p : Port) (num : Byte) (category : Byte) (w : CategoryWrite), s.listens p .stock →
    let r := Request.writeCategory category w
    let bad := 15 < category.toNat ∨ ¬ (-2 ≤ w.step.toInt ∧ w.step.toInt ≤ 1) ∨ 1000 < w.tA.toNat ∨ w.tA.toNat < w.tB.toNat ∨
      w.tB.toNat < w.tC.toNat
    ∃ t, exec (.writeCategory p num category w) s = .next t ∧
      (bad → s.onlyAnswered t p num r .badValue .none) ∧
      (¬ bad → s.grades category.toNat → s.onlyAnswered t p num r .tableInUse .none) ∧
      (¬ bad → ¬ s.grades category.toNat → ∃ rec : CategoryRecord,
        (w.step.toInt = -2 → rec.step = .minusTwo) ∧ (w.step.toInt = -1 → rec.step = .minusOne) ∧
        (w.step.toInt = 0 → rec.step = .zero) ∧ (w.step.toInt = 1 → rec.step = .plusOne) ∧
        rec.tA = w.tA.toNat ∧ rec.tB = w.tB.toNat ∧ rec.tC = w.tC.toNat ∧ rec.window = w.window.toNat ∧
        rec.rate = min 4096 w.rate.toNat ∧ rec.tolerance = min 1000 w.tolerance.toNat ∧ rec.mask = w.mask ∧
        rec.wearLimit = w.wearLimit.toNat ∧
        s.answered t p num r (if 4096 < w.rate.toNat ∨ 1000 < w.tolerance.toNat then .clamped else .ok) (.categoryRecord rec) ∧
        (∀ c : Fin 16, t.category c = if c.val = category.toNat then rec else s.category c) ∧
        t = (s.withCategories t.categories).withPorts t.ports)

/-- R89: Reseed Sampler stores the seed, or 0x5A3C in place of 0. -/
def Obligations.ReseedSamplerReplacesState : Prop :=
  ∀ (s : State) (p : Port) (num : Byte) (seed : BitVec 16), s.listens p .stock →
    ∃ t, exec (.reseedSampler p num seed) s = .next t ∧ t = (s.withSampler t.sampler).withPorts t.ports ∧
      (seed ≠ 0 → t.sampler = seed ∧ s.answered t p num (.reseedSampler seed) .ok (.sampler seed)) ∧
      (seed = 0 → t.sampler = 0x5A3C ∧ s.answered t p num (.reseedSampler seed) .replaced (.sampler 0x5A3C))

/-! Routing -/

/-- R101: Write Tote Map is refused whole for a bad entry; otherwise each map entry holds what the last list entry for it carries. -/
def Obligations.WriteToteMapLastEntryStands : Prop :=
  ∀ (s : State) (p : Port) (num : Byte) (es : List MapWrite), s.listens p .stock → 1 ≤ es.length → es.length ≤ 16 →
    ∃ t, exec (.writeToteMap p num es) s = .next t ∧
      ((∃ e ∈ es, 5 < e.cls.toNat ∨ 15 < e.category.toNat) → s.onlyAnswered t p num (.writeToteMap es) .badValue .none) ∧
      ((∀ e ∈ es, e.cls.toNat ≤ 5 ∧ e.category.toNat ≤ 15) →
        s.answered t p num (.writeToteMap es) .ok .none ∧ t = (s.withToteMap t.toteMap).withPorts t.ports ∧
        ∀ (cls : RouteClass) (c : Fin 16), t.mapEntry cls c =
          match es.reverse.find? fun e => decide (e.cls.toNat = cls.index ∧ e.category.toNat = c.val) with
          | some e => if e.valid then some e.tote else none
          | none => s.mapEntry cls c)

/-- R14, R103, R104, R107: the answers of a Route Query that reserve nothing, and the capture that EXCEPTION alone makes. -/
def Obligations.RouteQueryAnswersWithoutAPlace : Prop :=
  ∀ (s : State) (p : Port) (num : Byte) (tag : Tag), s.listens p .induct → s.mode = .live →
    (∀ c, s.case? tag = some c → c.partsFit) →
    let answers := fun (t : State) (a : RouteAnswer) => s.onlyAnswered t p num (.routeQuery tag) .ok (.route tag a)
    let unmapped := fun (t : State) (cls : RouteClass) (tote : Option ToteNo) =>
      t.replied p num (.routeQuery tag) .ok (.route tag (.exception cls)) ∧
      t.errors = s.errorsAfter .unmappedRoute p (some tag) tote ∧
      (∀ q e, (e = .errorCaptured ∧ s.tellsOfErrors q → (t.port q).notice? e = some (.error .unmappedRoute)) ∧
        (¬ (e = .errorCaptured ∧ s.tellsOfErrors q) → (t.port q).notice? e = (s.port q).notice? e)) ∧
      s.sameLinesBut t p ∧ t = (s.withErrors t.errors).withPorts t.ports
    ∃ t, exec (.routeQuery p num tag) s = .next t ∧
      if s.stopped = true then answers t .stopped
      else match s.case? tag with
        | none => answers t .unknownTag
        | some c =>
          (c.state = .routed → ∃ r, c.reservation = some r ∧ answers t (.tote r.tote c.routeClass r.deadline)) ∧
          (c.state ≠ .routed → c.state ≠ .graded → answers t (.notReady c.state)) ∧
          (c.state = .graded → ∀ bd, c.finalBand = some bd →
            ∃ cls, (c.awaitsAudit → cls = .audit) ∧
              (¬ c.awaitsAudit → cls = match bd with
                | .a => .restock
                | .b => .outlet
                | .c => .repair
                | .d => .salvage
                | .q => .review) ∧
              match s.mapEntry cls c.category with
              | none => unmapped t cls none
              | some first =>
                ((s.tote first).state = .unused → unmapped t cls (some first)) ∧
                ((s.tote first).state ≠ .unused → walk s.tote 4 first = none → answers t (.hold cls)))

/-- R106, R115: a Route Query whose walk finds an available tote reserves a place in it, in the case and in the tote. -/
def Obligations.RouteQueryReservesAPlace : Prop :=
  ∀ (s : State) (p : Port) (num : Byte) (tag : Tag) (c : Case) (cls : RouteClass) (first u : ToteNo),
    s.listens p .induct → s.mode = .live → s.stopped = false → s.case? tag = some c → c.state = .graded →
    c.classCalledFor = some cls → s.mapEntry cls c.category = some first → walk s.tote 4 first = some u →
    let deadline := s.deadlineAfter s.settings.dwellLimit
    ∃ t, exec (.routeQuery p num tag) s = .next t ∧
      s.answered t p num (.routeQuery tag) .ok (.route tag (.tote u (some cls) deadline)) ∧
      t.tote u = { s.tote u with reserved := (s.tote u).reserved + 1 } ∧ s.sameTotesBut t u ∧
      t.case? tag = some { c with state := .routed, reservation := some { tote := u, deadline := deadline, due := false },
                                  routeClass := some cls, lastLapsedTote := none } ∧
      s.sameCasesBut t tag ∧ t = ((s.withCases t.cases).withTotes t.totes).withPorts t.ports

/-- R105: the overflow walk reserves in a tote exactly when it is available and is reached from the first one over at most four totes in all,
each but the last neither UNUSED nor available and linked to the next. -/
def Obligations.OverflowWalkVisitsAtMostFour : Prop :=
  ∀ (totes : ToteNo → Tote) (first u : ToteNo),
    let available := fun v => (totes v).state = .opened ∧ (totes v).filled + (totes v).reserved < (totes v).capacity
    walk totes 4 first = some u ↔ available u ∧
      ∃ l : List ToteNo, l.length ≤ 4 ∧ l.head? = some first ∧ l.getLast? = some u ∧
        ∀ (i : Nat) (v w : ToteNo), l[i]? = some v → l[i + 1]? = some w →
          (totes v).state ≠ .unused ∧ ¬ available v ∧ (totes v).link = some w

/-- R110, R93: a placement into the reserved tote, TOTE_FULL, AUDIT_READY, and the drain that the last placement into a DRAINING tote
completes as DRAIN_COMPLETION does (`DrainCompletesInThreeWays`). The reply shows the tote as the placement itself left it. -/
def Obligations.ConfirmPlacementPlacesItem : Prop :=
  ∀ (s : State) (p : Port) (num : Byte) (tag : Tag) (u : ToteNo) (c : Case) (r : Reservation),
    s.listens p .induct → s.mode = .live → s.case? tag = some c → c.state = .routed → c.reservation = some r → r.tote = u →
    let k := s.tote u
    let fills := k.state = .opened ∧ k.capacity ≤ k.filled + 1
    ∃ (t x : State) (k' : Tote) (c' : Case), exec (.confirmPlacement p num tag u) s = .next t ∧
      k' = { k with reserved := k.reserved - 1, filled := k.filled + 1, manifest := k.manifest ++ [tag], state := k'.state } ∧
      (fills → k'.state = .full) ∧ (¬ fills → k'.state = k.state) ∧
      c' = { c with reservation := none, location := .inTote u, state := c'.state } ∧
      (c.routeClass = some .audit → c'.state = .auditWait) ∧ (c.routeClass ≠ some .audit → c'.state = .placed) ∧
      t.replied p num (.confirmPlacement tag u) .ok (.placed c'.state u (k.filled + 1) k'.state) ∧
      exec (.drainCompletion u) ((s.setTote u k').setCase tag c') = .next x ∧ t = x.withPorts t.ports ∧ s.sameLinesBut t p ∧
      (∀ q, (t.port q).notice? .auditReady =
        if c.routeClass = some .audit ∧ s.settings.auditCapable.getLsbD q.val = true then some (.tag tag)
        else (s.port q).notice? .auditReady) ∧
      (∀ q, (fills ∧ ((s.port q).role = .induct ∨ (s.port q).role = .stock) → (t.port q).notice? .toteFull = some (.tote u)) ∧
        (¬ (fills ∧ ((s.port q).role = .induct ∨ (s.port q).role = .stock)) →
          (t.port q).notice? .toteFull = (s.port q).notice? .toteFull)) ∧
      (∀ q e, e ≠ .auditReady → e ≠ .toteFull → (t.port q).notice? e = (x.port q).notice? e)

/-- R109, R111, R112: the refusals of Confirm Placement in their order, and the captures of WRONG_TOTE and LATE_PLACEMENT. -/
def Obligations.ConfirmPlacementRefused : Prop :=
  ∀ (s : State) (p : Port) (num : Byte) (tag : Tag) (u : ToteNo), s.listens p .induct → s.mode = .live →
    let req := Request.confirmPlacement tag u
    let refused := fun (t : State) (st : Status) (d : ReplyData) (kind : ErrorKind) =>
      t.replied p num req st d ∧ t.errors = s.errorsAfter kind p (some tag) (some u) ∧
      (∀ q e, (e = .errorCaptured ∧ s.tellsOfErrors q → (t.port q).notice? e = some (.error kind)) ∧
        (¬ (e = .errorCaptured ∧ s.tellsOfErrors q) → (t.port q).notice? e = (s.port q).notice? e)) ∧
      s.sameLinesBut t p ∧ t = (s.withErrors t.errors).withPorts t.ports
    ∃ t, exec (.confirmPlacement p num tag u) s = .next t ∧
      match s.case? tag with
      | none => s.onlyAnswered t p num req .unknownTag .none
      | some c =>
        (∀ r, c.state = .routed → c.reservation = some r → r.tote ≠ u → refused t .wrongTote (.tote r.tote) .wrongTote) ∧
        (c.state = .graded → c.lastLapsedTote = some u → refused t .tooLate .none .latePlacement) ∧
        (c.state = .graded → c.lastLapsedTote ≠ some u → s.onlyAnswered t p num req .wrongState (.caseState .graded)) ∧
        (c.state ≠ .routed → c.state ≠ .graded → s.onlyAnswered t p num req .wrongState (.caseState c.state))

/-- R113, R116: Cancel Route and a dwell lapse hand a reservation back, and complete a drain that waited for it as DRAIN_COMPLETION does.
The mark `due` is the model's (log entry 4); that a lapse which is not due changes nothing is its choice (log entry 3). -/
def Obligations.ReservationsAreHandedBack : Prop :=
  (∀ (s : State) (p : Port) (num : Byte) (tag : Tag) (c : Case) (r : Reservation), s.listens p .induct → s.mode = .live →
    s.case? tag = some c → c.state = .routed → c.reservation = some r →
    let k := s.tote r.tote
    ∃ t x, exec (.cancelRoute p num tag) s = .next t ∧ t.replied p num (.cancelRoute tag) .ok (.tote r.tote) ∧
      exec (.drainCompletion r.tote) ((s.setTote r.tote { k with reserved := k.reserved - 1 }).setCase tag
        { c with reservation := none, state := .graded, location := .none }) = .next x ∧
      t = x.withPorts t.ports ∧ s.sameLinesBut t p ∧ (∀ q e, (t.port q).notice? e = (x.port q).notice? e)) ∧
  (∀ (s : State) (p : Port) (num : Byte) (tag : Tag), s.listens p .induct → s.mode = .live →
    (∀ c, s.case? tag = some c → c.state ≠ .routed) →
    ∃ t, exec (.cancelRoute p num tag) s = .next t ∧
      match s.case? tag with
      | none => s.onlyAnswered t p num (.cancelRoute tag) .unknownTag .none
      | some c => s.onlyAnswered t p num (.cancelRoute tag) .wrongState (.caseState c.state)) ∧
  (∀ (s : State) (tag : Tag) (c : Case) (r : Reservation), s.case? tag = some c → c.reservation = some r → r.due = true →
    s.stopped = false →
    let k := s.tote r.tote
    ∃ t x, exec (.dwellLapse tag) s = .next t ∧
      exec (.drainCompletion r.tote) ((s.setTote r.tote { k with reserved := k.reserved - 1 }).setCase tag
        { c with reservation := none, state := .graded, location := .none, lastLapsedTote := some r.tote }) = .next x ∧
      t = x.withPorts t.ports ∧ (∀ q, s.sameLinesBut t q) ∧
      (∀ q e, (t.port q).notice? e =
        if e = .routeLapsed ∧ (s.port q).role = .induct then some (.tag tag) else (x.port q).notice? e)) ∧
  (∀ (s : State) (tag : Tag), (∀ c r, s.case? tag = some c → c.reservation = some r → r.due = false ∨ s.stopped = true) →
    exec (.dwellLapse tag) s = .next s)

/-- R118: the rise and the fall of STOP: the flag, STOP_CHANGE, and at the fall the dwell deadline of every ROUTED case. An edge to the
level that STOP already has changes nothing (log entry 3); the marks `due` are the model's (log entry 4). -/
def Obligations.StopLineRisesAndFalls : Prop :=
  (∀ s : State, s.stopped = false → ∃ t, exec .stopRise s = .next t ∧ t.stopped = true ∧
    s.notified t (fun _ x => decide (x.role = .induct ∨ x.role = .stock)) .stopChange (.stopLevel true) ∧
    (∀ tag, t.case? tag = (s.case? tag).map fun c =>
      { c with reservation := c.reservation.map fun r => { r with due := false } }) ∧
    (∀ q, s.sameLinesBut t q) ∧ t = ((s.withStopped true).withCases t.cases).withPorts t.ports) ∧
  (∀ s : State, s.stopped = true → ∃ t, exec .stopFall s = .next t ∧ t.stopped = false ∧
    s.notified t (fun _ x => decide (x.role = .induct ∨ x.role = .stock)) .stopChange (.stopLevel false) ∧
    (∀ tag c, s.case? tag = some c → c.state = .routed → t.case? tag = some
      { c with reservation := c.reservation.map fun r =>
          { r with deadline := s.deadlineAfter s.settings.dwellLimit, due := false } }) ∧
    (∀ tag, (∀ c, s.case? tag = some c → c.state ≠ .routed) → t.case? tag = s.case? tag) ∧
    (∀ q, s.sameLinesBut t q) ∧ t = ((s.withStopped false).withCases t.cases).withPorts t.ports) ∧
  (∀ s : State, (s.stopped = true → exec .stopRise s = .next s) ∧ (s.stopped = false → exec .stopFall s = .next s))

/-! Totes -/

/-- R126, R127: Write Tote, its checks in their order, the table of states, and TOTE_FULL. -/
def Obligations.WriteToteLaysOutTote : Prop :=
  ∀ (s : State) (p : Port) (num : Byte) (w : ToteWrite), s.listens p .stock →
    let k := s.tote w.tote
    let n := w.capacity.toNat
    ∃ t, exec (.writeTote p num w) s = .next t ∧
      if 1 < w.state.toNat ∨ n < 1 ∨ 32 < n ∨ w.link = some w.tote then
        s.onlyAnswered t p num (.writeTote w) .badValue (.toteRecord k)
      else if w.state = 0 ∧ (0 < k.filled ∨ 0 < k.reserved ∨ k.state = .draining) then
        s.onlyAnswered t p num (.writeTote w) .tableInUse (.toteRecord k)
      else if w.state = 1 ∧ n < k.filled + k.reserved then
        s.onlyAnswered t p num (.writeTote w) .badValue (.toteRecord k)
      else
        let k' := t.tote w.tote
        t.replied p num (.writeTote w) .ok (.toteRecord k') ∧ s.sameTotesBut t w.tote ∧
        k' = { k with capacity := n, link := if w.state = 0 then none else w.link, state := k'.state } ∧
        (w.state = 0 → k'.state = .unused) ∧
        (w.state = 1 → (k.state = .unused → k'.state = .opened) ∧ (k.state = .draining → k'.state = .draining) ∧
          (k.state = .opened ∨ k.state = .full → k.filled < n → k'.state = .opened) ∧
          (k.state = .opened ∨ k.state = .full → n = k.filled → k'.state = .full)) ∧
        (k.state = .opened ∧ k'.state = .full →
          s.notified t (fun _ x => decide (x.role = .induct ∨ x.role = .stock)) .toteFull (.tote w.tote)) ∧
        (¬ (k.state = .opened ∧ k'.state = .full) → s.sameNotices t) ∧
        s.sameLinesBut t p ∧ t = (s.withTotes t.totes).withPorts t.ports

/-- R130, R131: Tote Swap by the tote's state; a tote without reservations completes its drain in the same event, as DRAIN_COMPLETION
does, and the reply shows the tote after it. -/
def Obligations.ToteSwapStartsDrain : Prop :=
  ∀ (s : State) (p : Port) (num : Byte) (u : ToteNo), s.listens p .induct → s.mode = .live →
    let k := s.tote u
    let waits := fun (y : Tote) => decide (y.state = .draining ∧ y.reserved = 0 ∧ y.manifest ≠ [])
    ∃ t, exec (.toteSwap p num u) s = .next t ∧
      (k.state = .unused → s.onlyAnswered t p num (.toteSwap u) .wrongState .none) ∧
      (k.state = .draining → s.onlyAnswered t p num (.toteSwap u) .ok (.swapped .draining k.reserved (waits k))) ∧
      (k.state = .opened ∨ k.state = .full → ∃ x,
        exec (.drainCompletion u) (s.setTote u { k with state := .draining }) = .next x ∧
        t.replied p num (.toteSwap u) .ok (.swapped (x.tote u).state (x.tote u).reserved (waits (x.tote u))) ∧
        t = x.withPorts t.ports ∧ s.sameLinesBut t p ∧ (∀ q e, (t.port q).notice? e = (x.port q).notice? e))

/-- R131, R132: the three ways in which a drain completes. That a DRAIN_COMPLETION of a tote that is not DRAINING, or has reservations,
changes nothing is the model's choice (log entry 3). -/
def Obligations.DrainCompletesInThreeWays : Prop :=
  ∀ (s : State) (u : ToteNo),
    let k := s.tote u
    let swapDone := fun (t : State) =>
      s.notified t (fun _ x => decide (x.role = .induct ∨ x.role = .stock)) .swapDone (.tote u) ∧ ∀ q, s.sameLinesBut t q
    (¬ (k.state = .draining ∧ k.reserved = 0) → exec (.drainCompletion u) s = .next s) ∧
    (k.state = .draining → k.reserved = 0 → k.filled = 0 → ∃ t, exec (.drainCompletion u) s = .next t ∧
      t.tote u = { k with state := .opened } ∧ s.sameTotesBut t u ∧ swapDone t ∧
      t = (s.withTotes t.totes).withPorts t.ports) ∧
    (k.state = .draining → k.reserved = 0 → 0 < k.filled → s.outbound.length < 16 → ∃ t, exec (.drainCompletion u) s = .next t ∧
      t.tote u = { k with state := .opened, filled := 0, manifest := [] } ∧ s.sameTotesBut t u ∧
      t.outbound = s.outbound ++ [{ tote := u, second := s.calendar.secondCount, tags := k.manifest }] ∧
      (∀ tag, t.case? tag = if tag ∈ k.manifest then (s.case? tag).map fun c => { c with location := .departed }
        else s.case? tag) ∧
      swapDone t ∧ t = (((s.withCases t.cases).withTotes t.totes).withOutbound t.outbound).withPorts t.ports) ∧
    (k.state = .draining → k.reserved = 0 → 0 < k.filled → 16 ≤ s.outbound.length → exec (.drainCompletion u) s = .next s)

/-- R133, R136: Take Manifest answers with the oldest record and hands the freed place on as WAITING_TOTE_DEPARTURE does; a free place
goes to the waiting tote of the lowest number, which departs. That a WAITING_TOTE_DEPARTURE with none waiting or no room changes nothing is
the model's choice (log entry 3). -/
def Obligations.FreedPlaceGoesToLowestWaitingTote : Prop :=
  (∀ (s : State) (p : Port) (num : Byte), s.listens p .stock → ∃ t, exec (.takeManifest p num) s = .next t ∧
    match s.outbound with
    | [] => s.onlyAnswered t p num .takeManifest .empty .none
    | r :: rest => t.replied p num .takeManifest .ok (.manifest r rest.length) ∧
        ∃ x, exec .waitingToteDeparture (s.withOutbound rest) = .next x ∧ t = x.withPorts t.ports ∧ s.sameLinesBut t p ∧
          ∀ q e, (t.port q).notice? e = (x.port q).notice? e) ∧
  (∀ (s : State), Canonical s →
    let waits := fun u => (s.tote u).state = .draining ∧ (s.tote u).reserved = 0 ∧ (s.tote u).manifest ≠ []
    (∀ u, waits u → (∀ v, waits v → u ≤ v) → s.outbound.length < 16 → ∃ t, exec .waitingToteDeparture s = .next t ∧
      t.tote u = { s.tote u with state := .opened, filled := 0, manifest := [] } ∧ s.sameTotesBut t u ∧
      t.outbound = s.outbound ++ [{ tote := u, second := s.calendar.secondCount, tags := (s.tote u).manifest }] ∧
      (∀ tag, t.case? tag = if tag ∈ (s.tote u).manifest then (s.case? tag).map fun c => { c with location := .departed }
        else s.case? tag) ∧
      s.notified t (fun _ x => decide (x.role = .induct ∨ x.role = .stock)) .swapDone (.tote u) ∧
      (∀ q, s.sameLinesBut t q) ∧ t = (((s.withCases t.cases).withTotes t.totes).withOutbound t.outbound).withPorts t.ports) ∧
    ((∀ u, ¬ waits u) ∨ 16 ≤ s.outbound.length → exec .waitingToteDeparture s = .next s))

/-! Calendar and timers -/

/-- R140, R141, R142: the second event: the calendar moves on, the second count is held at its maximum, deadlines equal to the new count
become due, and at 23:59:59 the midnight rollover starts the sweep over every case present. A MIDNIGHT_ROLLOVER is that second event (log
entry 11), and at another time changes nothing (log entry 3). Lapses of holds and of reservations still due from the second event before
are taken first (log entry 4; the marks `due` are the model's). -/
def Obligations.SecondEventAdvancesTheCalendar : Prop :=
  (∀ s : State, (∀ tag c, s.case? tag = some c → c.lapseDue = false) → Canonical s →
    let c := s.calendar
    let midnight := 23 ≤ c.hour ∧ 59 ≤ c.minute ∧ 59 ≤ c.second
    let count := min 4294967295 (c.secondCount + 1)
    ∃ t, exec .secondEvent s = .next t ∧
      t.calendar.second = (if c.second < 59 then c.second + 1 else 0) ∧
      t.calendar.minute = (if c.second < 59 then c.minute else if c.minute < 59 then c.minute + 1 else 0) ∧
      t.calendar.hour = (if c.second < 59 ∨ c.minute < 59 then c.hour else if c.hour < 23 then c.hour + 1 else 0) ∧
      t.calendar.secondCount = count ∧
      (midnight → t.calendar.day = min 65535 (c.day + 1) ∧
        t.calendar.weekday = if c.weekday < 6 then c.weekday + 1 else 0) ∧
      (¬ midnight → t.calendar.day = c.day ∧ t.calendar.weekday = c.weekday ∧ t.calendar.sweep = c.sweep ∧ s.sameNotices t) ∧
      (midnight → s.cases.size ≠ 0 → s.sameNotices t ∧
        ∃ set, t.calendar.sweep = some set ∧ set.Nodup ∧ ∀ tag, tag ∈ set ↔ (s.case? tag).isSome = true) ∧
      (midnight → s.cases.size = 0 → t.calendar.sweep = none ∧
        s.notified t (fun _ x => decide (x.role = .stock)) .dayClosed (.day t.calendar.day)) ∧
      (∀ tag, t.case? tag = (s.case? tag).map fun a =>
        { a with holder := a.holder.map fun h => { h with due := decide (h.deadline = count) },
                 reservation := a.reservation.map fun r => { r with due := decide (r.deadline = count ∧ s.stopped = false) } }) ∧
      (∀ q, s.sameLinesBut t q) ∧ t = ((s.withCases t.cases).withCalendar t.calendar).withPorts t.ports) ∧
  (∀ s : State, 23 ≤ s.calendar.hour ∧ 59 ≤ s.calendar.minute ∧ 59 ≤ s.calendar.second →
    ∃ t, exec .midnightRollover s = .next t ∧ exec .secondEvent s = .next t) ∧
  (∀ s : State, ¬ (23 ≤ s.calendar.hour ∧ 59 ≤ s.calendar.minute ∧ 59 ≤ s.calendar.second) →
    exec .midnightRollover s = .next s) ∧
  (∀ (s : State) (tag : Tag) (c : Case) (h : Hold), Canonical s → s.case? tag = some c → c.holder = some h → h.due = true →
    ∃ t c', exec .secondEvent s = .next t ∧ t.case? tag = some c' ∧ c'.holder = none ∧ c'.lastLapsedHolder = some h.port ∧
      ∀ q, q = h.port ∨ (s.port q).role = .stock → ∃ u, (t.port q).notice? .holdLapsed = some (.tag u)) ∧
  (∀ (s : State) (tag : Tag) (c : Case) (r : Reservation), Canonical s → s.case? tag = some c → c.reservation = some r →
    r.due = true → s.stopped = false →
    ∃ t c', exec .secondEvent s = .next t ∧ t.case? tag = some c' ∧ c'.reservation = none ∧ c'.state = .graded ∧
      c'.lastLapsedTote = some r.tote ∧
      ∀ q, (s.port q).role = .induct → ∃ u, (t.port q).notice? .routeLapsed = some (.tag u))

/-- R143: a visit of the sweep, and the end of the sweep with DAY_CLOSED when its set is empty. A tag that is not in the set is not visited
(log entry 3); a Cancel Return or a Close Case that takes the last case of the set ends the sweep in the same event (log entry 6). -/
def Obligations.SweepVisitsEachCaseOnce : Prop :=
  let stock := fun (x : PortState) => decide (x.role = .stock)
  (∀ (s : State) (tag : Tag) (set : List Tag), s.calendar.sweep = some set → tag ∈ set →
    let overdue := fun (c : Case) => c.state = .expected ∧ c.openedDay ≤ s.calendar.day ∧
      s.settings.expectLimit < s.calendar.day - c.openedDay
    let rest := set.filter fun u => u ≠ tag
    ∃ t, exec (.sweepVisit tag) s = .next t ∧ s.sameCasesBut t tag ∧
      (∀ c, s.case? tag = some c → overdue c → t.case? tag = some { c with state := .lapsed } ∧
        ∀ q, (t.port q).notice? .caseLapsed = if stock (s.port q) then some (.tag tag) else (s.port q).notice? .caseLapsed) ∧
      ((∀ c, s.case? tag = some c → ¬ overdue c) → t.cases = s.cases ∧
        ∀ q, (t.port q).notice? .caseLapsed = (s.port q).notice? .caseLapsed) ∧
      (rest ≠ [] → t.calendar = { s.calendar with sweep := some rest } ∧
        ∀ q, (t.port q).notice? .dayClosed = (s.port q).notice? .dayClosed) ∧
      (rest = [] → t.calendar = { s.calendar with sweep := none } ∧
        ∀ q, (t.port q).notice? .dayClosed =
          if stock (s.port q) then some (.day s.calendar.day) else (s.port q).notice? .dayClosed) ∧
      (∀ q e, e ≠ .caseLapsed → e ≠ .dayClosed → (t.port q).notice? e = (s.port q).notice? e) ∧
      (∀ q, s.sameLinesBut t q) ∧ t = ((s.withCases t.cases).withCalendar t.calendar).withPorts t.ports) ∧
  (∀ (s : State) (tag : Tag), (∀ set, s.calendar.sweep = some set → tag ∉ set) → exec (.sweepVisit tag) s = .next s) ∧
  (∀ (s : State) (p : Port) (num : Byte) (tag : Tag) (c : Case) (set : List Tag), s.listens p .stock → s.case? tag = some c →
    s.calendar.sweep = some set → tag ∈ set → (∀ u ∈ set, u = tag) →
    let closes := fun (t : State) (r : Request) =>
      t.replied p num r .ok .none ∧ t.case? tag = none ∧ s.sameCasesBut t tag ∧ t.calendar = { s.calendar with sweep := none } ∧
      s.notified t (fun _ x => stock x) .dayClosed (.day s.calendar.day) ∧ s.sameLinesBut t p ∧
      t = ((s.withCases t.cases).withCalendar t.calendar).withPorts t.ports
    (c.state = .expected ∨ c.state = .lapsed → ∃ t, exec (.cancelReturn p num tag) s = .next t ∧ closes t (.cancelReturn tag)) ∧
    (c.state = .lapsed ∨ c.state = .placed ∧ c.location = .departed →
      ∃ t, exec (.closeCase p num tag) s = .next t ∧ closes t (.closeCase tag)))

/-- R146: Set Clock, its checks in their order, and the five fields it replaces. The second count and the sweep stay. -/
def Obligations.SetClockReplacesTheTime : Prop :=
  ∀ (s : State) (p : Port) (num : Byte) (w : ClockWrite), s.listens p .stock →
    ∃ t, exec (.setClock p num w) s = .next t ∧
      if 59 < w.second.toNat ∨ 59 < w.minute.toNat ∨ 23 < w.hour.toNat ∨ 6 < w.weekday.toNat then
        s.onlyAnswered t p num (.setClock w) .badValue .none
      else if s.calendar.sweep ≠ none then s.onlyAnswered t p num (.setClock w) .busy .none
      else
        s.answered t p num (.setClock w) .ok (.clockSet w.second.toNat w.minute.toNat w.hour.toNat w.weekday.toNat w.day.toNat
          s.calendar.secondCount) ∧
        t = (s.withCalendar { second := w.second.toNat, minute := w.minute.toNat, hour := w.hour.toNat,
                              weekday := w.weekday.toNat, day := w.day.toNat, secondCount := s.calendar.secondCount,
                              sweep := none }).withPorts t.ports

/-! Notices and error capture -/

/-- R150, R151, R152: Query Notice returns and clears the cause of highest priority that is pending and enabled, Set Notice Mask replaces the
enable set; both act on their own port alone and set its ATTN line. -/
def Obligations.NoticeRequestsServeTheirOwnPort : Prop :=
  ∀ (s : State) (p : Port) (role : Role) (num : Byte), s.listens p role →
    let calls := fun (e : Cause) => ((s.port p).notice? e).isSome = true ∧ (s.port p).enabled.getLsbD (e.priority - 1) = true
    let own := fun (t : State) => (∀ q, q ≠ p → t.port q = s.port q) ∧ (t.port p).assembler = .idle ∧ s.sameLinesBut t p
    (∃ t, exec (.queryNotice p num) s = .next t ∧ t = s.withPorts t.ports ∧
      ((∀ e, ¬ calls e) → s.answered t p num .queryNotice .ok (.notice none .none (s.port p).pendingCauses)) ∧
      (∀ c d, calls c → (∀ e, calls e → c.priority ≤ e.priority) → (s.port p).notice? c = some d →
        own t ∧ t.replied p num .queryNotice .ok (.notice (some c) d (t.port p).pendingCauses) ∧
        (∀ e, (t.port p).notice? e = if e = c then none else (s.port p).notice? e) ∧
        ((t.port p).attn = true ↔ ∃ e, e ≠ c ∧ calls e))) ∧
    (∀ marks, ∃ t, exec (.setNoticeMask p num marks) s = .next t ∧ t = s.withPorts t.ports ∧
      (∀ q, q ≠ p → t.port q = s.port q) ∧
      t.replied p num (.setNoticeMask marks) .ok (.pendingCauses (s.port p).pendingCauses) ∧
      t.port p = { s.port p with assembler := .idle, service := (t.port p).service, enabled := marks, attn := (t.port p).attn } ∧
      ((t.port p).attn = true ↔ ∃ e : Cause, ((s.port p).notice? e).isSome = true ∧ marks.getLsbD (e.priority - 1) = true))

/-- R129, R147, R155, R156, R162: Read Clock, Read Tote and Read Errors answer with what stands and change nothing; Query Line returns and
clears its own port's six flags; Clear Errors returns what the error capture held and brings it to its value after device reset. None of
them touches a notice. -/
def Obligations.ReportsAnswerWithWhatStands : Prop :=
  ∀ (s : State) (p : Port) (role : Role) (num : Byte), s.listens p role →
    (∃ t, exec (.readClock p num) s = .next t ∧
      s.onlyAnswered t p num .readClock .ok (.clock s.calendar.second s.calendar.minute s.calendar.hour s.calendar.weekday
        s.calendar.day s.calendar.secondCount s.calendar.sweep.isSome)) ∧
    (role = .stock → ∀ u, ∃ t waiting, exec (.readTote p num u) s = .next t ∧
      (waiting = true ↔ (s.tote u).state = .draining ∧ (s.tote u).reserved = 0 ∧ (s.tote u).manifest ≠ []) ∧
      s.onlyAnswered t p num (.readTote u) .ok (.toteRead (s.tote u) waiting)) ∧
    (role = .stock → ∃ t, exec (.readErrors p num) s = .next t ∧ s.onlyAnswered t p num .readErrors .ok (.errors s.errors)) ∧
    (∃ t, exec (.queryLine p num) s = .next t ∧ t.replied p num .queryLine .ok (.lineStatus (s.port p).line) ∧
      (∀ q, q ≠ p → t.port q = s.port q) ∧
      t.port p = { s.port p with assembler := .idle, service := (t.port p).service,
                                 line := { parity := false, framing := false, check := false, length := false, gap := false,
                                           overrun := false } } ∧
      t = s.withPorts t.ports) ∧
    (role = .stock → ∃ t, exec (.clearErrors p num) s = .next t ∧ s.answered t p num .clearErrors .ok (.errors s.errors) ∧
      t.errors.record = none ∧ t.errors.locked = false ∧ t.errors.multiple = false ∧ (∀ k, t.errors.summary.has k = false) ∧
      t = (s.withErrors t.errors).withPorts t.ports)

/-! Ports -/

/-- R158 to R161, R163, R167: the characters of a request's frame, arriving at an idle assembler, are that request: with every field at every
value, on every port and in every state (that a request row is such a frame is log entry 2, and that a GOOD_FRAME may carry other
characters too log entry 15). CHK is the remainder that R159's polynomial leaves. A frame with another CHK is a check error, one with a LEN
outside 2 to 160 a length error after which the assembler hunts for SYNC, and what is not SYNC is discarded at an idle assembler. Every
reply goes out as SYNC, a LEN of 3 to 160, the kind, number and status, its fields, and CHK: no field where it carries only a status, the
characters of R160 for a case record, the one of R162 for a line status, and the tag with NOT_LIVE to a Route Query. The other field
characters are free values, as the guide states no layout for them, and that no LEN is above 160 with them is the model's (log entry 10). -/
def Obligations.GoodFrameIsItsRequest : Prop :=
  (∀ (s : State) (p : Port) (num : Byte) (r : Request), r.spelled = true → r.len ≤ 160 → (s.port p).assembler = .idle →
    ∃ t, exec (.goodFrame p (r.frame num)) s = .next t ∧ exec (requestInstr p num r) s = .next t) ∧
  (∀ chars : List Byte,
    let poly := fun (b : Byte) => ∑ i ∈ Finset.range 8, if b.getLsbD i then (Polynomial.X : Polynomial (ZMod 2)) ^ i else 0
    (Polynomial.X ^ 8 + Polynomial.X ^ 2 + Polynomial.X + 1 : Polynomial (ZMod 2)) ∣
      (chars.foldl (fun m b => m * Polynomial.X ^ 8 + poly b) 0) * Polynomial.X ^ 8 + poly (crc8 chars)) ∧
  (∀ r : Reply, ∃ fields : List Byte,
    let len := BitVec.ofNat 8 (fields.length + 3)
    let body := r.kind :: r.num :: BitVec.ofNat 8 r.status.code :: fields
    fields.length ≤ 157 ∧ r.frame = 0xA5 :: len :: (body ++ [crc8 (len :: body)]) ∧
      (r.data = .none → fields = []) ∧ (∀ tag c, r.data = .caseRecord tag c → fields.length = 57) ∧
      (∀ l, r.data = .lineStatus l → ∃ ch : Byte, fields = [ch] ∧ (List.range 8).map ch.getLsbD =
        [l.parity, l.framing, l.check, l.length, l.gap, l.overrun, false, false]) ∧
      (∀ tag, r.data = .tagAlone tag → fields = [tag.extractLsb' 24 8, tag.extractLsb' 16 8, tag.extractLsb' 8 8, tag.extractLsb' 0 8])) ∧
  ∀ (s : State) (p : Port), (s.port p).assembler = .idle →
    (∀ (len chk : Byte) (body : List Byte), 2 ≤ len.toNat → len.toNat ≤ 160 → body.length = len.toNat → chk ≠ crc8 (len :: body) →
      exec (.goodFrame p (0xA5 :: len :: (body ++ [chk]))) s = exec (.checkError p) s) ∧
    (∀ (len : Byte) (rest : List Byte), len.toNat < 2 ∨ 160 < len.toNat → (∀ b ∈ rest, b ≠ 0xA5) →
      exec (.goodFrame p (0xA5 :: len :: rest)) s = exec (.lengthError p) s) ∧
    (∀ chars : List Byte, (∀ b ∈ chars, b ≠ 0xA5) → exec (.goodFrame p chars) s = .next s) ∧
    (∀ skipped chars : List Byte, (∀ b ∈ skipped, b ≠ 0xA5) → exec (.goodFrame p (skipped ++ chars)) s = exec (.goodFrame p chars) s)

/-- R160, R167: the layouts agree: what is read from the kind and the field characters of a request is that request, with every operand at
every value its width admits, and LEN counts its characters. -/
def Obligations.RequestLayoutsRoundTrip : Prop :=
  ∀ r : Request, r.spelled = true → readRequest r.kind r.fields = r ∧ r.len = r.fields.length + 2

/-- R163, R164, R157, R166: a request arriving while another is in service waits; a sent reply frees the slot, and the waiting request is handed
on as if it arrived then, also one of a wrong length; a request arriving with both slots full is an overrun. On an OFF port and within a
break (log entry 12) nothing arrives. That PORT_OVERRUN changes nothing on such a port or with a free slot, and REPLY_SENT nothing without
a reply ready, is the model's choice (log entry 3); that a request row is the arrival of its frame is log entry 2. -/
def Obligations.SlotsServeInOrder : Prop :=
  (∀ (s : State) (p : Port) (num : Byte) (r : Request), r.spelled = true → r.len ≤ 160 → (s.port p).deaf = false →
    (s.port p).service ≠ none → (s.port p).waiting = none →
    ∃ t, exec (requestInstr p num r) s = .next t ∧ t = s.withPorts t.ports ∧ (∀ q, q ≠ p → t.port q = s.port q) ∧
      t.port p = { s.port p with assembler := .idle, waiting := some { num := num, request := r } }) ∧
  (∀ (s : State) (p : Port) (num k : Byte) (fields : List Byte), (s.port p).assembler = .idle → fields.length ≤ 158 →
    (s.port p).deaf = false → (s.port p).service ≠ none → (s.port p).waiting = none →
    ∃ t, exec (.goodFrame p (frameChars (k :: num :: fields))) s = .next t ∧ t = s.withPorts t.ports ∧
      (∀ q, q ≠ p → t.port q = s.port q) ∧
      t.port p = { s.port p with waiting := some { num := num, request := readRequest k fields } }) ∧
  (∀ (s : State) (p : Port) (x : InService) (reply : Reply), (s.port p).service = some x → x.reply = some reply →
    ∃ t, exec (.replySent p) s = .next t ∧
      ((s.port p).waiting = none → t = s.withPorts t.ports ∧ (∀ q, q ≠ p → t.port q = s.port q) ∧
        t.port p = { s.port p with service := none }) ∧
      (∀ w, (s.port p).waiting = some w → w.request.spelled = true → w.request.len ≤ 160 → (s.port p).deaf = false →
        ∃ t', exec (requestInstr p w.num w.request)
            (s.updPort p fun y => { y with service := none, waiting := none }) = .next t' ∧
          t = t'.updPort p fun y => { y with assembler := (s.port p).assembler }) ∧
      (∀ w k, (s.port p).waiting = some w → w.request = .wrongLength k →
        let allowed := k.toNat ≤ 5 ∨ (s.port p).role = .stock ∧ k.toNat ≤ 24 ∨
          (s.port p).role = .bench ∧ 25 ≤ k.toNat ∧ k.toNat ≤ 27 ∨ (s.port p).role = .induct ∧ 28 ≤ k.toNat
        t = s.withPorts t.ports ∧ (∀ q, q ≠ p → t.port q = s.port q) ∧
        t.replied p w.num (.wrongLength k)
          (if k.toNat = 0 ∨ 31 < k.toNat then .badKind else if allowed then .badLength else .role) .none ∧
        t.port p = { s.port p with service := (t.port p).service, waiting := none })) ∧
  (∀ (s : State) (p : Port), (s.port p).deaf = false → (s.port p).service ≠ none → (s.port p).waiting ≠ none →
    ∃ t, exec (.portOverrun p) s = .next t ∧
      (∀ (num : Byte) (r : Request), r.spelled = true → r.len ≤ 160 → exec (requestInstr p num r) s = .next t) ∧
      (∀ (num k : Byte) (fields : List Byte), (s.port p).assembler = .idle → fields.length ≤ 158 →
        exec (.goodFrame p (frameChars (k :: num :: fields))) s = .next t) ∧
      t.errors = s.errorsAfter .portOverrun p none none ∧
      (∀ q, q ≠ p → t.port q = { s.port q with notices := (t.port q).notices, attn := (t.port q).attn }) ∧
      t.port p = { s.port p with line := { (s.port p).line with overrun := true }, assembler := .idle,
                                 notices := (t.port p).notices, attn := (t.port p).attn } ∧
      (∀ q e, (e = .errorCaptured ∧ s.tellsOfErrors q → (t.port q).notice? e = some (.error .portOverrun)) ∧
        (e = .lineFault ∧ q = p → (t.port q).notice? e = some .none) ∧
        (¬ (e = .errorCaptured ∧ s.tellsOfErrors q) → ¬ (e = .lineFault ∧ q = p) →
          (t.port q).notice? e = (s.port q).notice? e)) ∧
      t = (s.withErrors t.errors).withPorts t.ports) ∧
  (∀ (s : State) (p : Port), (s.port p).role = .off ∨ (s.port p).inBreak = true →
    (∀ (num : Byte) (r : Request), exec (requestInstr p num r) s = .next s) ∧
    ∀ chars : List Byte, exec (.goodFrame p chars) s = .next s) ∧
  (∀ (s : State) (p : Port), (s.port p).deaf = true ∨ (s.port p).service = none ∨ (s.port p).waiting = none →
    exec (.portOverrun p) s = .next s) ∧
  (∀ (s : State) (p : Port), (∀ x, (s.port p).service = some x → x.reply = none) → exec (.replySent p) s = .next s)

/-- R158, R161: a parity, framing, check or length error and a gap each set their flag, discard the frame being assembled and raise LINE_FAULT to
the port, whatever the assembler holds (that a check error or a gap does so at an idle one too is log entry 15); after a gap the late
character arrives at an idle assembler. Of a character's eleven bits, a data or parity bit received wrong is a parity error and a missing
stop bit a framing error, and the character itself is received otherwise. An OFF port has no faults (R157), nor is anything received
within a break (log entry 12). -/
def Obligations.LineFaultsSetTheirFlags : Prop :=
  ∀ (s : State) (p : Port),
    let faulted := fun (t : State) (line : LineStatus) (now : Assembler) =>
      t = s.withPorts t.ports ∧ (∀ q, q ≠ p → t.port q = s.port q) ∧
      (∀ e, (t.port p).notice? e = if e = .lineFault then some .none else (s.port p).notice? e) ∧
      t.port p = { s.port p with line := line, assembler := now, notices := (t.port p).notices, attn := (t.port p).attn }
    let l := (s.port p).line
    ((s.port p).deaf = false →
      (∃ t, exec (.parityError p) s = .next t ∧ faulted t { l with parity := true } .idle) ∧
      (∃ t, exec (.framingError p) s = .next t ∧ faulted t { l with framing := true } .idle) ∧
      (∃ t, exec (.checkError p) s = .next t ∧ faulted t { l with check := true } .idle) ∧
      (∃ t, exec (.lengthError p) s = .next t ∧ faulted t { l with length := true } .idle) ∧
      (∀ late, ∃ t, exec (.gapTimeout p late) s = .next t ∧
        faulted t { l with gap := true } (if late = 0xA5 then .synced else .idle))) ∧
    ((s.port p).deaf = true →
      exec (.parityError p) s = .next s ∧ exec (.framingError p) s = .next s ∧ exec (.checkError p) s = .next s ∧
      exec (.lengthError p) s = .next s ∧ ∀ late, exec (.gapTimeout p late) s = .next s) ∧
    ∀ ch : Byte,
      (charBits ch).length = 11 ∧ (charBits ch)[0]? = some false ∧ (∀ i, i < 8 → (charBits ch)[i + 1]? = some (ch.getLsbD i)) ∧
      ((charBits ch).take 10).count true % 2 = 0 ∧ (charBits ch)[10]? = some true ∧
      exec (.goodFrame p [ch]) s = .next (s.receiveBits p (charBits ch)) ∧
      (∀ i, 1 ≤ i → i ≤ 9 → exec (.parityError p) s = .next (s.receiveBits p ((charBits ch).modify i not))) ∧
      exec (.framingError p) s = .next (s.receiveBits p ((charBits ch).modify 10 not))

/-- R41, R166: a break empties the port, releases every hold of it, and then raises AUDIT_READY for the audit holds; the order of the
releases is free (log entry 5). While the break lasts, or on an OFF port, nothing more happens; the return to mark ends it. -/
def Obligations.PortResetReleasesHolds : Prop :=
  (∀ (s : State) (p : Port), (s.port p).deaf = false → Canonical s → (∀ tag c, s.case? tag = some c → c.partsFit) →
    let held := fun (c : Case) => c.holder.map (·.port) = some p
    let kept := fun (q : Port) (e : Cause) => if q = p then none else (s.port q).notice? e
    ∃ t, exec (.portReset p) s = .next t ∧
      (∀ tag c, s.case? tag = some c →
        (¬ held c → t.case? tag = some c) ∧
        (held c → c.state = .onBench → t.case? tag = some { c with holder := none, state := .expected }) ∧
        (held c → c.state = .onAudit →
          t.case? tag = some { c with holder := none, state := .auditWait, location := .none })) ∧
      (∀ tag, s.case? tag = none → t.case? tag = none) ∧
      (∀ q e, e ≠ .auditReady → (t.port q).notice? e = kept q e) ∧
      (∀ q, ((∃ tag c, s.case? tag = some c ∧ held c ∧ c.state = .onAudit) ∧ s.settings.auditCapable.getLsbD q.val = true →
          ∃ tag c, s.case? tag = some c ∧ held c ∧ c.state = .onAudit ∧ (t.port q).notice? .auditReady = some (.tag tag)) ∧
        (¬ ((∃ tag c, s.case? tag = some c ∧ held c ∧ c.state = .onAudit) ∧ s.settings.auditCapable.getLsbD q.val = true) →
          (t.port q).notice? .auditReady = kept q .auditReady)) ∧
      t.port p = { PortState.reset (s.port p).role with inBreak := true, notices := (t.port p).notices } ∧
      (∀ q, q ≠ p → t.port q = { s.port q with notices := (t.port q).notices, attn := (t.port q).attn }) ∧
      t = ((s.withCases t.cases).withFreeCount t.freeCount).withPorts t.ports) ∧
  (∀ (s : State) (p : Port), (s.port p).deaf = true → exec (.portReset p) s = .next s) ∧
  (∀ (s : State) (p : Port), ∃ t, exec (.lineReturnToMark p) s = .next t ∧ t = s.withPorts t.ports ∧
    (∀ q, q ≠ p → t.port q = s.port q) ∧ t.port p = { s.port p with inBreak := false })

/-- R165, R167, R168: the checks of the service slot's request in their order, then mode control: BAD_KIND, ROLE, BAD_LENGTH, NOT_LIVE. A
refused request changes nothing but its port's slot. A frame of a known kind whose characters fit no layout of it is BAD_LENGTH. A refusal
carries only its status, but NOT_LIVE to a Route Query the tag, as R103 says of every reply of its table (so read in log entry 19). That a
request row is a frame is the model's choice (log entry 2). -/
def Obligations.PortChecksRefuse : Prop :=
  ∀ (s : State) (p : Port) (role : Role) (num : Byte), s.listens p role →
    let allowed := fun (k : Nat) => k ≤ 5 ∨ role = .stock ∧ 6 ≤ k ∧ k ≤ 24 ∨ role = .bench ∧ 25 ≤ k ∧ k ≤ 27 ∨
      role = .induct ∧ 28 ≤ k ∧ k ≤ 31
    (∀ r : Request, r.spelled = true → r.len ≤ 160 → ∃ t, exec (requestInstr p num r) s = .next t ∧
      (r.kind.toNat = 0 ∨ 31 < r.kind.toNat → s.onlyAnswered t p num r .badKind .none) ∧
      (1 ≤ r.kind.toNat → r.kind.toNat ≤ 31 → ¬ allowed r.kind.toNat → s.onlyAnswered t p num r .role .none) ∧
      (∀ tag a obs, r = .submitGrade tag a obs → role = .bench → 16 < obs.length →
        s.onlyAnswered t p num r .badLength .none) ∧
      (∀ c f es, r = .writeWeights c f es → role = .stock → es = [] ∨ 16 < es.length →
        s.onlyAnswered t p num r .badLength .none) ∧
      (∀ es, r = .writeToteMap es → role = .stock → es = [] ∨ 16 < es.length → s.onlyAnswered t p num r .badLength .none) ∧
      (25 ≤ r.kind.toNat → r.kind.toNat ≤ 31 → allowed r.kind.toNat → s.mode = .config →
        (∀ tag a obs, r = .submitGrade tag a obs → obs.length ≤ 16) →
        s.onlyAnswered t p num r .notLive (match r with | .routeQuery tag => .tagAlone tag | _ => .none))) ∧
    (∀ (k : Byte) (fields : List Byte), (s.port p).assembler = .idle → fields.length ≤ 158 →
      readRequest k fields = .wrongLength k →
      ∃ t, exec (.goodFrame p (frameChars (k :: num :: fields))) s = .next t ∧
        s.onlyAnswered t p num (.wrongLength k) (if allowed k.toNat then .badLength else .role) .none) ∧
    (∀ k : Byte, k.toNat = 0 ∨ 31 < k.toNat → ∃ t, exec (.badKindRequest p num k) s = .next t ∧
      s.onlyAnswered t p num (.unknownKind k) .badKind .none)

/-! Floor modes -/

/-- R25, R138, R169, R170, R171: Go Live, Go Config, Write Settings and Clear Floor. Each setting is brought to the nearer end of its range,
and marks of ports that are not BENCH are dropped. Clear Floor empties the case table, every tote in use and the outbound queue,
raises and captures nothing, and leaves all else. -/
def Obligations.FloorModesSettingsAndClearing : Prop :=
  ∀ (s : State) (p : Port) (num : Byte), s.listens p .stock →
    (∃ t, exec (.goLive p num) s = .next t ∧ s.answered t p num .goLive .ok (.mode .live) ∧
      t = (s.withMode .live).withPorts t.ports) ∧
    (∃ t, exec (.goConfig p num) s = .next t ∧
      (s.engine = none → s.gradingQueue = [] → s.answered t p num .goConfig .ok (.mode .config) ∧
        t = (s.withMode .config).withPorts t.ports) ∧
      (s.engine ≠ none ∨ s.gradingQueue ≠ [] → s.onlyAnswered t p num .goConfig .busy .none)) ∧
    (∀ w : SettingsWrite, ∃ (t : State) (x : Settings), exec (.writeSettings p num w) s = .next t ∧
      x.holdLimit = (if w.holdLimit.toNat < 30 then 30 else if 3600 < w.holdLimit.toNat then 3600 else w.holdLimit.toNat) ∧
      x.dwellLimit = (if w.dwellLimit.toNat < 5 then 5 else if 600 < w.dwellLimit.toNat then 600 else w.dwellLimit.toNat) ∧
      x.expectLimit = (if w.expectLimit.toNat = 0 then 1 else w.expectLimit.toNat) ∧ x.everyError = w.everyError ∧
      (∀ q : Port, x.auditCapable.getLsbD q.val = (w.auditCapable.getLsbD q.val && decide ((s.port q).role = .bench))) ∧
      s.answered t p num (.writeSettings w)
        (if x.holdLimit = w.holdLimit.toNat ∧ x.dwellLimit = w.dwellLimit.toNat ∧ x.expectLimit = w.expectLimit.toNat ∧
          x.auditCapable = w.auditCapable then .ok else .clamped) (.settings x) ∧
      t = (s.withSettings x).withPorts t.ports) ∧
    (∃ t, exec (.clearFloor p num) s = .next t ∧
      if s.mode = .live then s.onlyAnswered t p num .clearFloor .wrongMode .none
      else if s.calendar.sweep ≠ none then s.onlyAnswered t p num .clearFloor .busy .none
      else
        s.answered t p num .clearFloor .ok (.cleared s.cases.size s.outbound.length) ∧
        (∀ tag, t.case? tag = none) ∧ t.cases.size = 0 ∧ t.outbound = [] ∧
        (∀ u, (s.tote u).state = .unused → t.tote u = s.tote u) ∧
        (∀ u, (s.tote u).state ≠ .unused →
          t.tote u = { s.tote u with state := .opened, filled := 0, reserved := 0, manifest := [] }) ∧
        t = (((s.withCases t.cases).withTotes t.totes).withOutbound []).withPorts t.ports)

/-! Invariants that every step keeps -/

/-- R150, R153: the ATTN lines and the error lock follow what they stand for. -/
def Obligations.StepKeepsAttnAndLock : Prop :=
  ∀ s t : State, AttnFollows s → LockFollows s → step s = .next t → AttnFollows t ∧ LockFollows t

/-- R2, R4, R26, R44, R46, R73, R74, R86, R115, R122, R135, R139, R153, R170: category records, weights, the calendar, the settings, the sampler,
the days, deadlines and grade records of cases, the submissions, the computation in the engine, the seconds of error and departure
records, and the counts of totes stay in their ranges (the filled and reserved counts by the tote laws of `StepKeepsTheToteLaws`), and
holders, graders, auditors and audit-capable ports are BENCH ports. -/
def Obligations.StepKeepsValuesInRange : Prop :=
  (∀ s t : State, InRange s → step s = .next t → InRange t) ∧
  ∀ s t : State, Canonical s → GradingLaw s → ManifestLaw s → CountLaw s → step s = .next t →
    ∀ u, (t.tote u).filled ≤ 32 ∧ (t.tote u).reserved ≤ 32 ∧ (t.tote u).manifest.length ≤ 32

/-- R1, R135: the case table and the outbound queue stay within their sizes, and every table in its canonical form. -/
def Obligations.StepKeepsTablesCanonical : Prop :=
  ∀ s t : State, Canonical s → step s = .next t → Canonical t

/-- R3, R26, R44, R46, R169: the law of the grading engine. -/
def Obligations.StepKeepsTheGradingLaw : Prop :=
  ∀ s t : State, GradingLaw s → step s = .next t → GradingLaw t

/-- R3, R4, R5, R12, R31: every case's parts fit its state, no port audits its own first grade, and while a case stays in the table its first
grade, its selected flag and the resolution of its audit, once present, are not changed. -/
def Obligations.StepKeepsTheHistoryOfCases : Prop :=
  ∀ s t : State, GradingLaw s → HistoryLaw s → step s = .next t → HistoryLaw t ∧
    ∀ (tag : Tag) (c c' : Case), s.case? tag = some c → t.case? tag = some c' →
      (∀ g, c.firstGrade = some g → c'.firstGrade = some g) ∧
      (∀ a x, c.audit = some a → a.resolution = some x → c'.audit = some a) ∧
      (∀ a, c.audit = some a → ∃ a', c'.audit = some a' ∧ a'.selected = a.selected)

/-- R6, R122, R123, R124: locations and manifests agree, the counts of every tote fit its state and its capacity, and reserved counts the
ROUTED cases. -/
def Obligations.StepKeepsTheToteLaws : Prop :=
  ∀ s t : State, Canonical s → GradingLaw s → ManifestLaw s → CountLaw s → step s = .next t → ManifestLaw t ∧ CountLaw t
end

