-- ==== Sys2Proof/Laws/Lines.lean ====
section
/-! SUPPORT. A character's bits read back, what a receiver makes of a bit received wrong, and the lengths of the layouts. -/

namespace Sys2Proof

/-- A character's own bits read back as that character, its parity even and its stop bit standing (R158). -/
@[simp] theorem readChar_charBits (b : Byte) : readChar (charBits b) = some { data := b, parityOk := true, stopOk := true } := by
  revert b; decide +kernel

/-- One data bit or the parity bit received wrong: the parity is odd and the stop bit stands (R158, R161). -/
theorem readChar_flip_parity (b : Byte) (i : Fin 9) :
    (readChar ((charBits b).modify (i.val + 1) not)).map (fun c => (c.parityOk, c.stopOk)) = some (false, true) := by
  revert i b; decide +kernel

/-- The stop bit received as space (R158, R161). -/
theorem readChar_flip_stop (b : Byte) :
    readChar ((charBits b).modify 10 not) = some { data := b, parityOk := true, stopOk := false } := by
  revert b; decide +kernel

@[simp] theorem chars1_length (n : Nat) : (chars1 n).length = 1 := rfl
@[simp] theorem chars2_length (n : Nat) : (chars2 n).length = 2 := rfl
@[simp] theorem chars4_length (n : Nat) : (chars4 n).length = 4 := rfl

end Sys2Proof

namespace Sys2Proof.Machine

/-- A character whose bits arrive as they were sent is received. -/
@[simp] theorem State.receiveBits_charBits (p : Port) (s : State) (b : Byte) : s.receiveBits p (charBits b) = s.receiveChar p b := by
  simp [State.receiveBits]

/-- What a run of characters does, character by character (R159). -/
theorem State.receive_eq (s : State) (p : Port) (chars : List Byte) : s.receive p chars = chars.foldl (State.receiveChar p) s := by
  simp only [State.receive, State.receiveBits_charBits]

/-- A grade record has ten characters (R160). -/
@[simp] theorem GradeRecord.chars_length (g : GradeRecord) : g.chars.length = 10 := by
  simp only [GradeRecord.chars, List.length_append, chars1_length, chars2_length, List.length_singleton]

@[simp] theorem gradeChars_length (g : Option GradeRecord) : (gradeChars g).length = 10 := by
  cases g <;> simp [gradeChars]

/-- A case record reply has LEN 60: these characters after kind, number and status (R160). -/
theorem Case.recordChars_length (tag : Tag) (c : Case) : (c.recordChars tag).length = 57 := by
  delta Case.recordChars
  dsimp only
  simp only [List.length_append]
  rw [chars4_length, gradeChars_length, gradeChars_length]
  simp only [chars1_length, chars2_length, chars4_length, List.length_cons, List.length_nil]

/-- The grade record of a Submit Grade reply stands in it with the ten characters of R160, whatever the free characters (R68). -/
theorem GradeResult.grade_infix (r : GradeResult) : r.grade.chars <:+: r.chars := by
  rw [GradeResult.chars]
  exact List.infix_append ..

/-- A route answer's code stands in its reply, whatever the free characters (R167). -/
theorem routeChars_code_mem (tag : Tag) (a : RouteAnswer) : BitVec.ofNat 8 a.code ∈ routeChars tag a := by
  simp [routeChars, chars1]

/-- A Submit Grade reply fits a frame (R158). -/
theorem GradeResult.chars_length (r : GradeResult) : r.chars.length ≤ 157 := by
  simp only [GradeResult.chars, List.length_append, List.length_take, GradeRecord.chars_length]
  omega

theorem routeChars_length (tag : Tag) (a : RouteAnswer) : (routeChars tag a).length ≤ 157 := by
  simp only [routeChars, List.length_append, List.length_take, chars1_length]
  omega

/-- The fields of every reply fit a frame (R158). -/
theorem ReplyData.chars_length (d : ReplyData) : d.chars.length ≤ 157 := by
  cases d with
  | none => simp [ReplyData.chars]
  | caseRecord t c =>
    rw [ReplyData.chars, Case.recordChars_length]
    decide
  | lineStatus l => simp [ReplyData.chars]
  | graded r => exact r.chars_length
  | route t a => exact routeChars_length t a
  | tagAlone t => simp [ReplyData.chars]
  | _ => exact List.length_take_le ..

/-- What a reply's frame is, written out (R158). -/
theorem Reply.frame_eq (r : Reply) :
    let body := r.kind :: r.num :: BitVec.ofNat 8 r.status.code :: r.data.chars
    r.frame = Config.sync :: BitVec.ofNat 8 body.length :: (body ++ [crc8 (BitVec.ofNat 8 body.length :: body)]) := rfl

/-- Every reply is a good frame: SYNC, LEN and CHK are as R158 and R159 say. -/
theorem Reply.frame_good (r : Reply) : goodFrameChars r.frame = true := by
  have h := r.data.chars_length
  have hl : (BitVec.ofNat 8 (r.data.chars.length + 1 + 1 + 1)).toNat = r.data.chars.length + 3 := by
    rw [BitVec.toNat_ofNat]; omega
  simp only [Reply.frame_eq, goodFrameChars, List.length_append, List.length_cons, List.length_nil, hl, List.getLast?_append,
    List.dropLast_concat, List.getLast?_singleton, Option.some_or, decide_true, Bool.true_and, Bool.and_true, Bool.and_eq_true,
    decide_eq_true_eq, Config.minLen, Config.maxLen]
  omega

end Sys2Proof.Machine
end

