-- ==== Sys2Proof/Laws/State.lean ====
section
/-! SUPPORT. Each named update of the state changes its own field and leaves the others. -/

namespace Sys2Proof.Machine

variable (s : State)

@[simp] theorem State.withCases_cases (x : Store Case) : (s.withCases x).cases = x := rfl
@[simp] theorem State.withCases_gradingQueue (x : Store Case) : (s.withCases x).gradingQueue = s.gradingQueue := rfl
@[simp] theorem State.withCases_engine (x : Store Case) : (s.withCases x).engine = s.engine := rfl
@[simp] theorem State.withCases_weights (x : Store Case) : (s.withCases x).weights = s.weights := rfl
@[simp] theorem State.withCases_categories (x : Store Case) : (s.withCases x).categories = s.categories := rfl
@[simp] theorem State.withCases_sampler (x : Store Case) : (s.withCases x).sampler = s.sampler := rfl
@[simp] theorem State.withCases_toteMap (x : Store Case) : (s.withCases x).toteMap = s.toteMap := rfl
@[simp] theorem State.withCases_stopped (x : Store Case) : (s.withCases x).stopped = s.stopped := rfl
@[simp] theorem State.withCases_totes (x : Store Case) : (s.withCases x).totes = s.totes := rfl
@[simp] theorem State.withCases_outbound (x : Store Case) : (s.withCases x).outbound = s.outbound := rfl
@[simp] theorem State.withCases_calendar (x : Store Case) : (s.withCases x).calendar = s.calendar := rfl
@[simp] theorem State.withCases_ports (x : Store Case) : (s.withCases x).ports = s.ports := rfl
@[simp] theorem State.withCases_errors (x : Store Case) : (s.withCases x).errors = s.errors := rfl
@[simp] theorem State.withCases_mode (x : Store Case) : (s.withCases x).mode = s.mode := rfl
@[simp] theorem State.withCases_settings (x : Store Case) : (s.withCases x).settings = s.settings := rfl
@[simp] theorem State.withCases_lineRate (x : Store Case) : (s.withCases x).lineRate = s.lineRate := rfl
@[simp] theorem State.withCases_freeCount (x : Store Case) : (s.withCases x).freeCount = s.freeCount := rfl
@[simp] theorem State.withCases_pending (x : Store Case) : (s.withCases x).pending = s.pending := rfl

@[simp] theorem State.withGradingQueue_cases (x : List Submission) : (s.withGradingQueue x).cases = s.cases := rfl
@[simp] theorem State.withGradingQueue_gradingQueue (x : List Submission) : (s.withGradingQueue x).gradingQueue = x := rfl
@[simp] theorem State.withGradingQueue_engine (x : List Submission) : (s.withGradingQueue x).engine = s.engine := rfl
@[simp] theorem State.withGradingQueue_weights (x : List Submission) : (s.withGradingQueue x).weights = s.weights := rfl
@[simp] theorem State.withGradingQueue_categories (x : List Submission) : (s.withGradingQueue x).categories = s.categories := rfl
@[simp] theorem State.withGradingQueue_sampler (x : List Submission) : (s.withGradingQueue x).sampler = s.sampler := rfl
@[simp] theorem State.withGradingQueue_toteMap (x : List Submission) : (s.withGradingQueue x).toteMap = s.toteMap := rfl
@[simp] theorem State.withGradingQueue_stopped (x : List Submission) : (s.withGradingQueue x).stopped = s.stopped := rfl
@[simp] theorem State.withGradingQueue_totes (x : List Submission) : (s.withGradingQueue x).totes = s.totes := rfl
@[simp] theorem State.withGradingQueue_outbound (x : List Submission) : (s.withGradingQueue x).outbound = s.outbound := rfl
@[simp] theorem State.withGradingQueue_calendar (x : List Submission) : (s.withGradingQueue x).calendar = s.calendar := rfl
@[simp] theorem State.withGradingQueue_ports (x : List Submission) : (s.withGradingQueue x).ports = s.ports := rfl
@[simp] theorem State.withGradingQueue_errors (x : List Submission) : (s.withGradingQueue x).errors = s.errors := rfl
@[simp] theorem State.withGradingQueue_mode (x : List Submission) : (s.withGradingQueue x).mode = s.mode := rfl
@[simp] theorem State.withGradingQueue_settings (x : List Submission) : (s.withGradingQueue x).settings = s.settings := rfl
@[simp] theorem State.withGradingQueue_lineRate (x : List Submission) : (s.withGradingQueue x).lineRate = s.lineRate := rfl
@[simp] theorem State.withGradingQueue_freeCount (x : List Submission) : (s.withGradingQueue x).freeCount = s.freeCount := rfl
@[simp] theorem State.withGradingQueue_pending (x : List Submission) : (s.withGradingQueue x).pending = s.pending := rfl

@[simp] theorem State.withEngine_cases (x : Option Computation) : (s.withEngine x).cases = s.cases := rfl
@[simp] theorem State.withEngine_gradingQueue (x : Option Computation) : (s.withEngine x).gradingQueue = s.gradingQueue := rfl
@[simp] theorem State.withEngine_engine (x : Option Computation) : (s.withEngine x).engine = x := rfl
@[simp] theorem State.withEngine_weights (x : Option Computation) : (s.withEngine x).weights = s.weights := rfl
@[simp] theorem State.withEngine_categories (x : Option Computation) : (s.withEngine x).categories = s.categories := rfl
@[simp] theorem State.withEngine_sampler (x : Option Computation) : (s.withEngine x).sampler = s.sampler := rfl
@[simp] theorem State.withEngine_toteMap (x : Option Computation) : (s.withEngine x).toteMap = s.toteMap := rfl
@[simp] theorem State.withEngine_stopped (x : Option Computation) : (s.withEngine x).stopped = s.stopped := rfl
@[simp] theorem State.withEngine_totes (x : Option Computation) : (s.withEngine x).totes = s.totes := rfl
@[simp] theorem State.withEngine_outbound (x : Option Computation) : (s.withEngine x).outbound = s.outbound := rfl
@[simp] theorem State.withEngine_calendar (x : Option Computation) : (s.withEngine x).calendar = s.calendar := rfl
@[simp] theorem State.withEngine_ports (x : Option Computation) : (s.withEngine x).ports = s.ports := rfl
@[simp] theorem State.withEngine_errors (x : Option Computation) : (s.withEngine x).errors = s.errors := rfl
@[simp] theorem State.withEngine_mode (x : Option Computation) : (s.withEngine x).mode = s.mode := rfl
@[simp] theorem State.withEngine_settings (x : Option Computation) : (s.withEngine x).settings = s.settings := rfl
@[simp] theorem State.withEngine_lineRate (x : Option Computation) : (s.withEngine x).lineRate = s.lineRate := rfl
@[simp] theorem State.withEngine_freeCount (x : Option Computation) : (s.withEngine x).freeCount = s.freeCount := rfl
@[simp] theorem State.withEngine_pending (x : Option Computation) : (s.withEngine x).pending = s.pending := rfl

@[simp] theorem State.withWeights_cases (x : Store (Store WeightEntry)) : (s.withWeights x).cases = s.cases := rfl
@[simp] theorem State.withWeights_gradingQueue (x : Store (Store WeightEntry)) : (s.withWeights x).gradingQueue = s.gradingQueue := rfl
@[simp] theorem State.withWeights_engine (x : Store (Store WeightEntry)) : (s.withWeights x).engine = s.engine := rfl
@[simp] theorem State.withWeights_weights (x : Store (Store WeightEntry)) : (s.withWeights x).weights = x := rfl
@[simp] theorem State.withWeights_categories (x : Store (Store WeightEntry)) : (s.withWeights x).categories = s.categories := rfl
@[simp] theorem State.withWeights_sampler (x : Store (Store WeightEntry)) : (s.withWeights x).sampler = s.sampler := rfl
@[simp] theorem State.withWeights_toteMap (x : Store (Store WeightEntry)) : (s.withWeights x).toteMap = s.toteMap := rfl
@[simp] theorem State.withWeights_stopped (x : Store (Store WeightEntry)) : (s.withWeights x).stopped = s.stopped := rfl
@[simp] theorem State.withWeights_totes (x : Store (Store WeightEntry)) : (s.withWeights x).totes = s.totes := rfl
@[simp] theorem State.withWeights_outbound (x : Store (Store WeightEntry)) : (s.withWeights x).outbound = s.outbound := rfl
@[simp] theorem State.withWeights_calendar (x : Store (Store WeightEntry)) : (s.withWeights x).calendar = s.calendar := rfl
@[simp] theorem State.withWeights_ports (x : Store (Store WeightEntry)) : (s.withWeights x).ports = s.ports := rfl
@[simp] theorem State.withWeights_errors (x : Store (Store WeightEntry)) : (s.withWeights x).errors = s.errors := rfl
@[simp] theorem State.withWeights_mode (x : Store (Store WeightEntry)) : (s.withWeights x).mode = s.mode := rfl
@[simp] theorem State.withWeights_settings (x : Store (Store WeightEntry)) : (s.withWeights x).settings = s.settings := rfl
@[simp] theorem State.withWeights_lineRate (x : Store (Store WeightEntry)) : (s.withWeights x).lineRate = s.lineRate := rfl
@[simp] theorem State.withWeights_freeCount (x : Store (Store WeightEntry)) : (s.withWeights x).freeCount = s.freeCount := rfl
@[simp] theorem State.withWeights_pending (x : Store (Store WeightEntry)) : (s.withWeights x).pending = s.pending := rfl

@[simp] theorem State.withCategories_cases (x : Store CategoryRecord) : (s.withCategories x).cases = s.cases := rfl
@[simp] theorem State.withCategories_gradingQueue (x : Store CategoryRecord) : (s.withCategories x).gradingQueue = s.gradingQueue := rfl
@[simp] theorem State.withCategories_engine (x : Store CategoryRecord) : (s.withCategories x).engine = s.engine := rfl
@[simp] theorem State.withCategories_weights (x : Store CategoryRecord) : (s.withCategories x).weights = s.weights := rfl
@[simp] theorem State.withCategories_categories (x : Store CategoryRecord) : (s.withCategories x).categories = x := rfl
@[simp] theorem State.withCategories_sampler (x : Store CategoryRecord) : (s.withCategories x).sampler = s.sampler := rfl
@[simp] theorem State.withCategories_toteMap (x : Store CategoryRecord) : (s.withCategories x).toteMap = s.toteMap := rfl
@[simp] theorem State.withCategories_stopped (x : Store CategoryRecord) : (s.withCategories x).stopped = s.stopped := rfl
@[simp] theorem State.withCategories_totes (x : Store CategoryRecord) : (s.withCategories x).totes = s.totes := rfl
@[simp] theorem State.withCategories_outbound (x : Store CategoryRecord) : (s.withCategories x).outbound = s.outbound := rfl
@[simp] theorem State.withCategories_calendar (x : Store CategoryRecord) : (s.withCategories x).calendar = s.calendar := rfl
@[simp] theorem State.withCategories_ports (x : Store CategoryRecord) : (s.withCategories x).ports = s.ports := rfl
@[simp] theorem State.withCategories_errors (x : Store CategoryRecord) : (s.withCategories x).errors = s.errors := rfl
@[simp] theorem State.withCategories_mode (x : Store CategoryRecord) : (s.withCategories x).mode = s.mode := rfl
@[simp] theorem State.withCategories_settings (x : Store CategoryRecord) : (s.withCategories x).settings = s.settings := rfl
@[simp] theorem State.withCategories_lineRate (x : Store CategoryRecord) : (s.withCategories x).lineRate = s.lineRate := rfl
@[simp] theorem State.withCategories_freeCount (x : Store CategoryRecord) : (s.withCategories x).freeCount = s.freeCount := rfl
@[simp] theorem State.withCategories_pending (x : Store CategoryRecord) : (s.withCategories x).pending = s.pending := rfl

@[simp] theorem State.withSampler_cases (x : BitVec 16) : (s.withSampler x).cases = s.cases := rfl
@[simp] theorem State.withSampler_gradingQueue (x : BitVec 16) : (s.withSampler x).gradingQueue = s.gradingQueue := rfl
@[simp] theorem State.withSampler_engine (x : BitVec 16) : (s.withSampler x).engine = s.engine := rfl
@[simp] theorem State.withSampler_weights (x : BitVec 16) : (s.withSampler x).weights = s.weights := rfl
@[simp] theorem State.withSampler_categories (x : BitVec 16) : (s.withSampler x).categories = s.categories := rfl
@[simp] theorem State.withSampler_sampler (x : BitVec 16) : (s.withSampler x).sampler = x := rfl
@[simp] theorem State.withSampler_toteMap (x : BitVec 16) : (s.withSampler x).toteMap = s.toteMap := rfl
@[simp] theorem State.withSampler_stopped (x : BitVec 16) : (s.withSampler x).stopped = s.stopped := rfl
@[simp] theorem State.withSampler_totes (x : BitVec 16) : (s.withSampler x).totes = s.totes := rfl
@[simp] theorem State.withSampler_outbound (x : BitVec 16) : (s.withSampler x).outbound = s.outbound := rfl
@[simp] theorem State.withSampler_calendar (x : BitVec 16) : (s.withSampler x).calendar = s.calendar := rfl
@[simp] theorem State.withSampler_ports (x : BitVec 16) : (s.withSampler x).ports = s.ports := rfl
@[simp] theorem State.withSampler_errors (x : BitVec 16) : (s.withSampler x).errors = s.errors := rfl
@[simp] theorem State.withSampler_mode (x : BitVec 16) : (s.withSampler x).mode = s.mode := rfl
@[simp] theorem State.withSampler_settings (x : BitVec 16) : (s.withSampler x).settings = s.settings := rfl
@[simp] theorem State.withSampler_lineRate (x : BitVec 16) : (s.withSampler x).lineRate = s.lineRate := rfl
@[simp] theorem State.withSampler_freeCount (x : BitVec 16) : (s.withSampler x).freeCount = s.freeCount := rfl
@[simp] theorem State.withSampler_pending (x : BitVec 16) : (s.withSampler x).pending = s.pending := rfl

@[simp] theorem State.withToteMap_cases (x : Store ToteNo) : (s.withToteMap x).cases = s.cases := rfl
@[simp] theorem State.withToteMap_gradingQueue (x : Store ToteNo) : (s.withToteMap x).gradingQueue = s.gradingQueue := rfl
@[simp] theorem State.withToteMap_engine (x : Store ToteNo) : (s.withToteMap x).engine = s.engine := rfl
@[simp] theorem State.withToteMap_weights (x : Store ToteNo) : (s.withToteMap x).weights = s.weights := rfl
@[simp] theorem State.withToteMap_categories (x : Store ToteNo) : (s.withToteMap x).categories = s.categories := rfl
@[simp] theorem State.withToteMap_sampler (x : Store ToteNo) : (s.withToteMap x).sampler = s.sampler := rfl
@[simp] theorem State.withToteMap_toteMap (x : Store ToteNo) : (s.withToteMap x).toteMap = x := rfl
@[simp] theorem State.withToteMap_stopped (x : Store ToteNo) : (s.withToteMap x).stopped = s.stopped := rfl
@[simp] theorem State.withToteMap_totes (x : Store ToteNo) : (s.withToteMap x).totes = s.totes := rfl
@[simp] theorem State.withToteMap_outbound (x : Store ToteNo) : (s.withToteMap x).outbound = s.outbound := rfl
@[simp] theorem State.withToteMap_calendar (x : Store ToteNo) : (s.withToteMap x).calendar = s.calendar := rfl
@[simp] theorem State.withToteMap_ports (x : Store ToteNo) : (s.withToteMap x).ports = s.ports := rfl
@[simp] theorem State.withToteMap_errors (x : Store ToteNo) : (s.withToteMap x).errors = s.errors := rfl
@[simp] theorem State.withToteMap_mode (x : Store ToteNo) : (s.withToteMap x).mode = s.mode := rfl
@[simp] theorem State.withToteMap_settings (x : Store ToteNo) : (s.withToteMap x).settings = s.settings := rfl
@[simp] theorem State.withToteMap_lineRate (x : Store ToteNo) : (s.withToteMap x).lineRate = s.lineRate := rfl
@[simp] theorem State.withToteMap_freeCount (x : Store ToteNo) : (s.withToteMap x).freeCount = s.freeCount := rfl
@[simp] theorem State.withToteMap_pending (x : Store ToteNo) : (s.withToteMap x).pending = s.pending := rfl

@[simp] theorem State.withStopped_cases (x : Bool) : (s.withStopped x).cases = s.cases := rfl
@[simp] theorem State.withStopped_gradingQueue (x : Bool) : (s.withStopped x).gradingQueue = s.gradingQueue := rfl
@[simp] theorem State.withStopped_engine (x : Bool) : (s.withStopped x).engine = s.engine := rfl
@[simp] theorem State.withStopped_weights (x : Bool) : (s.withStopped x).weights = s.weights := rfl
@[simp] theorem State.withStopped_categories (x : Bool) : (s.withStopped x).categories = s.categories := rfl
@[simp] theorem State.withStopped_sampler (x : Bool) : (s.withStopped x).sampler = s.sampler := rfl
@[simp] theorem State.withStopped_toteMap (x : Bool) : (s.withStopped x).toteMap = s.toteMap := rfl
@[simp] theorem State.withStopped_stopped (x : Bool) : (s.withStopped x).stopped = x := rfl
@[simp] theorem State.withStopped_totes (x : Bool) : (s.withStopped x).totes = s.totes := rfl
@[simp] theorem State.withStopped_outbound (x : Bool) : (s.withStopped x).outbound = s.outbound := rfl
@[simp] theorem State.withStopped_calendar (x : Bool) : (s.withStopped x).calendar = s.calendar := rfl
@[simp] theorem State.withStopped_ports (x : Bool) : (s.withStopped x).ports = s.ports := rfl
@[simp] theorem State.withStopped_errors (x : Bool) : (s.withStopped x).errors = s.errors := rfl
@[simp] theorem State.withStopped_mode (x : Bool) : (s.withStopped x).mode = s.mode := rfl
@[simp] theorem State.withStopped_settings (x : Bool) : (s.withStopped x).settings = s.settings := rfl
@[simp] theorem State.withStopped_lineRate (x : Bool) : (s.withStopped x).lineRate = s.lineRate := rfl
@[simp] theorem State.withStopped_freeCount (x : Bool) : (s.withStopped x).freeCount = s.freeCount := rfl
@[simp] theorem State.withStopped_pending (x : Bool) : (s.withStopped x).pending = s.pending := rfl

@[simp] theorem State.withTotes_cases (x : Store Tote) : (s.withTotes x).cases = s.cases := rfl
@[simp] theorem State.withTotes_gradingQueue (x : Store Tote) : (s.withTotes x).gradingQueue = s.gradingQueue := rfl
@[simp] theorem State.withTotes_engine (x : Store Tote) : (s.withTotes x).engine = s.engine := rfl
@[simp] theorem State.withTotes_weights (x : Store Tote) : (s.withTotes x).weights = s.weights := rfl
@[simp] theorem State.withTotes_categories (x : Store Tote) : (s.withTotes x).categories = s.categories := rfl
@[simp] theorem State.withTotes_sampler (x : Store Tote) : (s.withTotes x).sampler = s.sampler := rfl
@[simp] theorem State.withTotes_toteMap (x : Store Tote) : (s.withTotes x).toteMap = s.toteMap := rfl
@[simp] theorem State.withTotes_stopped (x : Store Tote) : (s.withTotes x).stopped = s.stopped := rfl
@[simp] theorem State.withTotes_totes (x : Store Tote) : (s.withTotes x).totes = x := rfl
@[simp] theorem State.withTotes_outbound (x : Store Tote) : (s.withTotes x).outbound = s.outbound := rfl
@[simp] theorem State.withTotes_calendar (x : Store Tote) : (s.withTotes x).calendar = s.calendar := rfl
@[simp] theorem State.withTotes_ports (x : Store Tote) : (s.withTotes x).ports = s.ports := rfl
@[simp] theorem State.withTotes_errors (x : Store Tote) : (s.withTotes x).errors = s.errors := rfl
@[simp] theorem State.withTotes_mode (x : Store Tote) : (s.withTotes x).mode = s.mode := rfl
@[simp] theorem State.withTotes_settings (x : Store Tote) : (s.withTotes x).settings = s.settings := rfl
@[simp] theorem State.withTotes_lineRate (x : Store Tote) : (s.withTotes x).lineRate = s.lineRate := rfl
@[simp] theorem State.withTotes_freeCount (x : Store Tote) : (s.withTotes x).freeCount = s.freeCount := rfl
@[simp] theorem State.withTotes_pending (x : Store Tote) : (s.withTotes x).pending = s.pending := rfl

@[simp] theorem State.withOutbound_cases (x : List DepartureRecord) : (s.withOutbound x).cases = s.cases := rfl
@[simp] theorem State.withOutbound_gradingQueue (x : List DepartureRecord) : (s.withOutbound x).gradingQueue = s.gradingQueue := rfl
@[simp] theorem State.withOutbound_engine (x : List DepartureRecord) : (s.withOutbound x).engine = s.engine := rfl
@[simp] theorem State.withOutbound_weights (x : List DepartureRecord) : (s.withOutbound x).weights = s.weights := rfl
@[simp] theorem State.withOutbound_categories (x : List DepartureRecord) : (s.withOutbound x).categories = s.categories := rfl
@[simp] theorem State.withOutbound_sampler (x : List DepartureRecord) : (s.withOutbound x).sampler = s.sampler := rfl
@[simp] theorem State.withOutbound_toteMap (x : List DepartureRecord) : (s.withOutbound x).toteMap = s.toteMap := rfl
@[simp] theorem State.withOutbound_stopped (x : List DepartureRecord) : (s.withOutbound x).stopped = s.stopped := rfl
@[simp] theorem State.withOutbound_totes (x : List DepartureRecord) : (s.withOutbound x).totes = s.totes := rfl
@[simp] theorem State.withOutbound_outbound (x : List DepartureRecord) : (s.withOutbound x).outbound = x := rfl
@[simp] theorem State.withOutbound_calendar (x : List DepartureRecord) : (s.withOutbound x).calendar = s.calendar := rfl
@[simp] theorem State.withOutbound_ports (x : List DepartureRecord) : (s.withOutbound x).ports = s.ports := rfl
@[simp] theorem State.withOutbound_errors (x : List DepartureRecord) : (s.withOutbound x).errors = s.errors := rfl
@[simp] theorem State.withOutbound_mode (x : List DepartureRecord) : (s.withOutbound x).mode = s.mode := rfl
@[simp] theorem State.withOutbound_settings (x : List DepartureRecord) : (s.withOutbound x).settings = s.settings := rfl
@[simp] theorem State.withOutbound_lineRate (x : List DepartureRecord) : (s.withOutbound x).lineRate = s.lineRate := rfl
@[simp] theorem State.withOutbound_freeCount (x : List DepartureRecord) : (s.withOutbound x).freeCount = s.freeCount := rfl
@[simp] theorem State.withOutbound_pending (x : List DepartureRecord) : (s.withOutbound x).pending = s.pending := rfl

@[simp] theorem State.withCalendar_cases (x : Calendar) : (s.withCalendar x).cases = s.cases := rfl
@[simp] theorem State.withCalendar_gradingQueue (x : Calendar) : (s.withCalendar x).gradingQueue = s.gradingQueue := rfl
@[simp] theorem State.withCalendar_engine (x : Calendar) : (s.withCalendar x).engine = s.engine := rfl
@[simp] theorem State.withCalendar_weights (x : Calendar) : (s.withCalendar x).weights = s.weights := rfl
@[simp] theorem State.withCalendar_categories (x : Calendar) : (s.withCalendar x).categories = s.categories := rfl
@[simp] theorem State.withCalendar_sampler (x : Calendar) : (s.withCalendar x).sampler = s.sampler := rfl
@[simp] theorem State.withCalendar_toteMap (x : Calendar) : (s.withCalendar x).toteMap = s.toteMap := rfl
@[simp] theorem State.withCalendar_stopped (x : Calendar) : (s.withCalendar x).stopped = s.stopped := rfl
@[simp] theorem State.withCalendar_totes (x : Calendar) : (s.withCalendar x).totes = s.totes := rfl
@[simp] theorem State.withCalendar_outbound (x : Calendar) : (s.withCalendar x).outbound = s.outbound := rfl
@[simp] theorem State.withCalendar_calendar (x : Calendar) : (s.withCalendar x).calendar = x := rfl
@[simp] theorem State.withCalendar_ports (x : Calendar) : (s.withCalendar x).ports = s.ports := rfl
@[simp] theorem State.withCalendar_errors (x : Calendar) : (s.withCalendar x).errors = s.errors := rfl
@[simp] theorem State.withCalendar_mode (x : Calendar) : (s.withCalendar x).mode = s.mode := rfl
@[simp] theorem State.withCalendar_settings (x : Calendar) : (s.withCalendar x).settings = s.settings := rfl
@[simp] theorem State.withCalendar_lineRate (x : Calendar) : (s.withCalendar x).lineRate = s.lineRate := rfl
@[simp] theorem State.withCalendar_freeCount (x : Calendar) : (s.withCalendar x).freeCount = s.freeCount := rfl
@[simp] theorem State.withCalendar_pending (x : Calendar) : (s.withCalendar x).pending = s.pending := rfl

@[simp] theorem State.withPorts_cases (x : Vector PortState 8) : (s.withPorts x).cases = s.cases := rfl
@[simp] theorem State.withPorts_gradingQueue (x : Vector PortState 8) : (s.withPorts x).gradingQueue = s.gradingQueue := rfl
@[simp] theorem State.withPorts_engine (x : Vector PortState 8) : (s.withPorts x).engine = s.engine := rfl
@[simp] theorem State.withPorts_weights (x : Vector PortState 8) : (s.withPorts x).weights = s.weights := rfl
@[simp] theorem State.withPorts_categories (x : Vector PortState 8) : (s.withPorts x).categories = s.categories := rfl
@[simp] theorem State.withPorts_sampler (x : Vector PortState 8) : (s.withPorts x).sampler = s.sampler := rfl
@[simp] theorem State.withPorts_toteMap (x : Vector PortState 8) : (s.withPorts x).toteMap = s.toteMap := rfl
@[simp] theorem State.withPorts_stopped (x : Vector PortState 8) : (s.withPorts x).stopped = s.stopped := rfl
@[simp] theorem State.withPorts_totes (x : Vector PortState 8) : (s.withPorts x).totes = s.totes := rfl
@[simp] theorem State.withPorts_outbound (x : Vector PortState 8) : (s.withPorts x).outbound = s.outbound := rfl
@[simp] theorem State.withPorts_calendar (x : Vector PortState 8) : (s.withPorts x).calendar = s.calendar := rfl
@[simp] theorem State.withPorts_ports (x : Vector PortState 8) : (s.withPorts x).ports = x := rfl
@[simp] theorem State.withPorts_errors (x : Vector PortState 8) : (s.withPorts x).errors = s.errors := rfl
@[simp] theorem State.withPorts_mode (x : Vector PortState 8) : (s.withPorts x).mode = s.mode := rfl
@[simp] theorem State.withPorts_settings (x : Vector PortState 8) : (s.withPorts x).settings = s.settings := rfl
@[simp] theorem State.withPorts_lineRate (x : Vector PortState 8) : (s.withPorts x).lineRate = s.lineRate := rfl
@[simp] theorem State.withPorts_freeCount (x : Vector PortState 8) : (s.withPorts x).freeCount = s.freeCount := rfl
@[simp] theorem State.withPorts_pending (x : Vector PortState 8) : (s.withPorts x).pending = s.pending := rfl

@[simp] theorem State.withErrors_cases (x : ErrorCapture) : (s.withErrors x).cases = s.cases := rfl
@[simp] theorem State.withErrors_gradingQueue (x : ErrorCapture) : (s.withErrors x).gradingQueue = s.gradingQueue := rfl
@[simp] theorem State.withErrors_engine (x : ErrorCapture) : (s.withErrors x).engine = s.engine := rfl
@[simp] theorem State.withErrors_weights (x : ErrorCapture) : (s.withErrors x).weights = s.weights := rfl
@[simp] theorem State.withErrors_categories (x : ErrorCapture) : (s.withErrors x).categories = s.categories := rfl
@[simp] theorem State.withErrors_sampler (x : ErrorCapture) : (s.withErrors x).sampler = s.sampler := rfl
@[simp] theorem State.withErrors_toteMap (x : ErrorCapture) : (s.withErrors x).toteMap = s.toteMap := rfl
@[simp] theorem State.withErrors_stopped (x : ErrorCapture) : (s.withErrors x).stopped = s.stopped := rfl
@[simp] theorem State.withErrors_totes (x : ErrorCapture) : (s.withErrors x).totes = s.totes := rfl
@[simp] theorem State.withErrors_outbound (x : ErrorCapture) : (s.withErrors x).outbound = s.outbound := rfl
@[simp] theorem State.withErrors_calendar (x : ErrorCapture) : (s.withErrors x).calendar = s.calendar := rfl
@[simp] theorem State.withErrors_ports (x : ErrorCapture) : (s.withErrors x).ports = s.ports := rfl
@[simp] theorem State.withErrors_errors (x : ErrorCapture) : (s.withErrors x).errors = x := rfl
@[simp] theorem State.withErrors_mode (x : ErrorCapture) : (s.withErrors x).mode = s.mode := rfl
@[simp] theorem State.withErrors_settings (x : ErrorCapture) : (s.withErrors x).settings = s.settings := rfl
@[simp] theorem State.withErrors_lineRate (x : ErrorCapture) : (s.withErrors x).lineRate = s.lineRate := rfl
@[simp] theorem State.withErrors_freeCount (x : ErrorCapture) : (s.withErrors x).freeCount = s.freeCount := rfl
@[simp] theorem State.withErrors_pending (x : ErrorCapture) : (s.withErrors x).pending = s.pending := rfl

@[simp] theorem State.withMode_cases (x : Mode) : (s.withMode x).cases = s.cases := rfl
@[simp] theorem State.withMode_gradingQueue (x : Mode) : (s.withMode x).gradingQueue = s.gradingQueue := rfl
@[simp] theorem State.withMode_engine (x : Mode) : (s.withMode x).engine = s.engine := rfl
@[simp] theorem State.withMode_weights (x : Mode) : (s.withMode x).weights = s.weights := rfl
@[simp] theorem State.withMode_categories (x : Mode) : (s.withMode x).categories = s.categories := rfl
@[simp] theorem State.withMode_sampler (x : Mode) : (s.withMode x).sampler = s.sampler := rfl
@[simp] theorem State.withMode_toteMap (x : Mode) : (s.withMode x).toteMap = s.toteMap := rfl
@[simp] theorem State.withMode_stopped (x : Mode) : (s.withMode x).stopped = s.stopped := rfl
@[simp] theorem State.withMode_totes (x : Mode) : (s.withMode x).totes = s.totes := rfl
@[simp] theorem State.withMode_outbound (x : Mode) : (s.withMode x).outbound = s.outbound := rfl
@[simp] theorem State.withMode_calendar (x : Mode) : (s.withMode x).calendar = s.calendar := rfl
@[simp] theorem State.withMode_ports (x : Mode) : (s.withMode x).ports = s.ports := rfl
@[simp] theorem State.withMode_errors (x : Mode) : (s.withMode x).errors = s.errors := rfl
@[simp] theorem State.withMode_mode (x : Mode) : (s.withMode x).mode = x := rfl
@[simp] theorem State.withMode_settings (x : Mode) : (s.withMode x).settings = s.settings := rfl
@[simp] theorem State.withMode_lineRate (x : Mode) : (s.withMode x).lineRate = s.lineRate := rfl
@[simp] theorem State.withMode_freeCount (x : Mode) : (s.withMode x).freeCount = s.freeCount := rfl
@[simp] theorem State.withMode_pending (x : Mode) : (s.withMode x).pending = s.pending := rfl

@[simp] theorem State.withSettings_cases (x : Settings) : (s.withSettings x).cases = s.cases := rfl
@[simp] theorem State.withSettings_gradingQueue (x : Settings) : (s.withSettings x).gradingQueue = s.gradingQueue := rfl
@[simp] theorem State.withSettings_engine (x : Settings) : (s.withSettings x).engine = s.engine := rfl
@[simp] theorem State.withSettings_weights (x : Settings) : (s.withSettings x).weights = s.weights := rfl
@[simp] theorem State.withSettings_categories (x : Settings) : (s.withSettings x).categories = s.categories := rfl
@[simp] theorem State.withSettings_sampler (x : Settings) : (s.withSettings x).sampler = s.sampler := rfl
@[simp] theorem State.withSettings_toteMap (x : Settings) : (s.withSettings x).toteMap = s.toteMap := rfl
@[simp] theorem State.withSettings_stopped (x : Settings) : (s.withSettings x).stopped = s.stopped := rfl
@[simp] theorem State.withSettings_totes (x : Settings) : (s.withSettings x).totes = s.totes := rfl
@[simp] theorem State.withSettings_outbound (x : Settings) : (s.withSettings x).outbound = s.outbound := rfl
@[simp] theorem State.withSettings_calendar (x : Settings) : (s.withSettings x).calendar = s.calendar := rfl
@[simp] theorem State.withSettings_ports (x : Settings) : (s.withSettings x).ports = s.ports := rfl
@[simp] theorem State.withSettings_errors (x : Settings) : (s.withSettings x).errors = s.errors := rfl
@[simp] theorem State.withSettings_mode (x : Settings) : (s.withSettings x).mode = s.mode := rfl
@[simp] theorem State.withSettings_settings (x : Settings) : (s.withSettings x).settings = x := rfl
@[simp] theorem State.withSettings_lineRate (x : Settings) : (s.withSettings x).lineRate = s.lineRate := rfl
@[simp] theorem State.withSettings_freeCount (x : Settings) : (s.withSettings x).freeCount = s.freeCount := rfl
@[simp] theorem State.withSettings_pending (x : Settings) : (s.withSettings x).pending = s.pending := rfl

@[simp] theorem State.withFreeCount_cases (x : Nat) : (s.withFreeCount x).cases = s.cases := rfl
@[simp] theorem State.withFreeCount_gradingQueue (x : Nat) : (s.withFreeCount x).gradingQueue = s.gradingQueue := rfl
@[simp] theorem State.withFreeCount_engine (x : Nat) : (s.withFreeCount x).engine = s.engine := rfl
@[simp] theorem State.withFreeCount_weights (x : Nat) : (s.withFreeCount x).weights = s.weights := rfl
@[simp] theorem State.withFreeCount_categories (x : Nat) : (s.withFreeCount x).categories = s.categories := rfl
@[simp] theorem State.withFreeCount_sampler (x : Nat) : (s.withFreeCount x).sampler = s.sampler := rfl
@[simp] theorem State.withFreeCount_toteMap (x : Nat) : (s.withFreeCount x).toteMap = s.toteMap := rfl
@[simp] theorem State.withFreeCount_stopped (x : Nat) : (s.withFreeCount x).stopped = s.stopped := rfl
@[simp] theorem State.withFreeCount_totes (x : Nat) : (s.withFreeCount x).totes = s.totes := rfl
@[simp] theorem State.withFreeCount_outbound (x : Nat) : (s.withFreeCount x).outbound = s.outbound := rfl
@[simp] theorem State.withFreeCount_calendar (x : Nat) : (s.withFreeCount x).calendar = s.calendar := rfl
@[simp] theorem State.withFreeCount_ports (x : Nat) : (s.withFreeCount x).ports = s.ports := rfl
@[simp] theorem State.withFreeCount_errors (x : Nat) : (s.withFreeCount x).errors = s.errors := rfl
@[simp] theorem State.withFreeCount_mode (x : Nat) : (s.withFreeCount x).mode = s.mode := rfl
@[simp] theorem State.withFreeCount_settings (x : Nat) : (s.withFreeCount x).settings = s.settings := rfl
@[simp] theorem State.withFreeCount_lineRate (x : Nat) : (s.withFreeCount x).lineRate = s.lineRate := rfl
@[simp] theorem State.withFreeCount_freeCount (x : Nat) : (s.withFreeCount x).freeCount = x := rfl
@[simp] theorem State.withFreeCount_pending (x : Nat) : (s.withFreeCount x).pending = s.pending := rfl

@[simp] theorem State.withPending_cases (x : List Instr) : (s.withPending x).cases = s.cases := rfl
@[simp] theorem State.withPending_gradingQueue (x : List Instr) : (s.withPending x).gradingQueue = s.gradingQueue := rfl
@[simp] theorem State.withPending_engine (x : List Instr) : (s.withPending x).engine = s.engine := rfl
@[simp] theorem State.withPending_weights (x : List Instr) : (s.withPending x).weights = s.weights := rfl
@[simp] theorem State.withPending_categories (x : List Instr) : (s.withPending x).categories = s.categories := rfl
@[simp] theorem State.withPending_sampler (x : List Instr) : (s.withPending x).sampler = s.sampler := rfl
@[simp] theorem State.withPending_toteMap (x : List Instr) : (s.withPending x).toteMap = s.toteMap := rfl
@[simp] theorem State.withPending_stopped (x : List Instr) : (s.withPending x).stopped = s.stopped := rfl
@[simp] theorem State.withPending_totes (x : List Instr) : (s.withPending x).totes = s.totes := rfl
@[simp] theorem State.withPending_outbound (x : List Instr) : (s.withPending x).outbound = s.outbound := rfl
@[simp] theorem State.withPending_calendar (x : List Instr) : (s.withPending x).calendar = s.calendar := rfl
@[simp] theorem State.withPending_ports (x : List Instr) : (s.withPending x).ports = s.ports := rfl
@[simp] theorem State.withPending_errors (x : List Instr) : (s.withPending x).errors = s.errors := rfl
@[simp] theorem State.withPending_mode (x : List Instr) : (s.withPending x).mode = s.mode := rfl
@[simp] theorem State.withPending_settings (x : List Instr) : (s.withPending x).settings = s.settings := rfl
@[simp] theorem State.withPending_lineRate (x : List Instr) : (s.withPending x).lineRate = s.lineRate := rfl
@[simp] theorem State.withPending_freeCount (x : List Instr) : (s.withPending x).freeCount = s.freeCount := rfl
@[simp] theorem State.withPending_pending (x : List Instr) : (s.withPending x).pending = x := rfl

@[simp] theorem State.withCases_withCases (x y : Store Case) : (s.withCases x).withCases y = s.withCases y := rfl
@[simp] theorem State.withCases_self : s.withCases s.cases = s := rfl
@[simp] theorem State.withGradingQueue_withGradingQueue (x y : List Submission) : (s.withGradingQueue x).withGradingQueue y = s.withGradingQueue y := rfl
@[simp] theorem State.withGradingQueue_self : s.withGradingQueue s.gradingQueue = s := rfl
@[simp] theorem State.withEngine_withEngine (x y : Option Computation) : (s.withEngine x).withEngine y = s.withEngine y := rfl
@[simp] theorem State.withEngine_self : s.withEngine s.engine = s := rfl
@[simp] theorem State.withWeights_withWeights (x y : Store (Store WeightEntry)) : (s.withWeights x).withWeights y = s.withWeights y := rfl
@[simp] theorem State.withWeights_self : s.withWeights s.weights = s := rfl
@[simp] theorem State.withCategories_withCategories (x y : Store CategoryRecord) : (s.withCategories x).withCategories y = s.withCategories y := rfl
@[simp] theorem State.withCategories_self : s.withCategories s.categories = s := rfl
@[simp] theorem State.withSampler_withSampler (x y : BitVec 16) : (s.withSampler x).withSampler y = s.withSampler y := rfl
@[simp] theorem State.withSampler_self : s.withSampler s.sampler = s := rfl
@[simp] theorem State.withToteMap_withToteMap (x y : Store ToteNo) : (s.withToteMap x).withToteMap y = s.withToteMap y := rfl
@[simp] theorem State.withToteMap_self : s.withToteMap s.toteMap = s := rfl
@[simp] theorem State.withStopped_withStopped (x y : Bool) : (s.withStopped x).withStopped y = s.withStopped y := rfl
@[simp] theorem State.withStopped_self : s.withStopped s.stopped = s := rfl
@[simp] theorem State.withTotes_withTotes (x y : Store Tote) : (s.withTotes x).withTotes y = s.withTotes y := rfl
@[simp] theorem State.withTotes_self : s.withTotes s.totes = s := rfl
@[simp] theorem State.withOutbound_withOutbound (x y : List DepartureRecord) : (s.withOutbound x).withOutbound y = s.withOutbound y := rfl
@[simp] theorem State.withOutbound_self : s.withOutbound s.outbound = s := rfl
@[simp] theorem State.withCalendar_withCalendar (x y : Calendar) : (s.withCalendar x).withCalendar y = s.withCalendar y := rfl
@[simp] theorem State.withCalendar_self : s.withCalendar s.calendar = s := rfl
@[simp] theorem State.withPorts_withPorts (x y : Vector PortState 8) : (s.withPorts x).withPorts y = s.withPorts y := rfl
@[simp] theorem State.withPorts_self : s.withPorts s.ports = s := rfl
@[simp] theorem State.withErrors_withErrors (x y : ErrorCapture) : (s.withErrors x).withErrors y = s.withErrors y := rfl
@[simp] theorem State.withErrors_self : s.withErrors s.errors = s := rfl
@[simp] theorem State.withMode_withMode (x y : Mode) : (s.withMode x).withMode y = s.withMode y := rfl
@[simp] theorem State.withMode_self : s.withMode s.mode = s := rfl
@[simp] theorem State.withSettings_withSettings (x y : Settings) : (s.withSettings x).withSettings y = s.withSettings y := rfl
@[simp] theorem State.withSettings_self : s.withSettings s.settings = s := rfl
@[simp] theorem State.withFreeCount_withFreeCount (x y : Nat) : (s.withFreeCount x).withFreeCount y = s.withFreeCount y := rfl
@[simp] theorem State.withFreeCount_self : s.withFreeCount s.freeCount = s := rfl
@[simp] theorem State.withPending_withPending (x y : List Instr) : (s.withPending x).withPending y = s.withPending y := rfl
@[simp] theorem State.withPending_self : s.withPending s.pending = s := rfl

end Sys2Proof.Machine
end

