-- ==== Sys2Proof/Laws/Store.lean ====
section
/-! SUPPORT. What a store holds after each operation, and that every operation keeps the canonical form. -/

namespace Sys2Proof.Machine

variable {ν : Type}

theorem findIn_insertIn (k j : Nat) (v : ν) (l : List (Nat × ν)) :
    findIn j (insertIn k v l) = if j = k then some v else findIn j l := by
  induction l with
  | nil => simp only [insertIn, findIn]; split <;> split <;> first | rfl | omega
  | cons e r ih =>
    simp only [insertIn]
    split
    · simp only [findIn]; repeat' split
      all_goals first | rfl | omega
    · split
      · simp only [findIn]; repeat' split
        all_goals first | rfl | omega
      · simp only [findIn, ih]; repeat' split
        all_goals first | rfl | omega

theorem findIn_eraseIn (k j : Nat) (l : List (Nat × ν)) :
    findIn j (eraseIn k l) = if j = k then none else findIn j l := by
  induction l with
  | nil => simp [eraseIn, findIn]
  | cons e r ih =>
    simp only [eraseIn]
    split
    · rw [ih]; simp only [findIn]; repeat' split
      all_goals first | rfl | omega
    · simp only [findIn, ih]; repeat' split
      all_goals first | rfl | omega

@[simp] theorem Store.find?_empty (k : Nat) : (Store.empty : Store ν).find? k = none := rfl

theorem Store.find?_insert (m : Store ν) (k j : Nat) (v : ν) :
    (m.insert k v).find? j = if j = k then some v else m.find? j := findIn_insertIn k j v m.entries

theorem Store.find?_erase (m : Store ν) (k j : Nat) :
    (m.erase k).find? j = if j = k then none else m.find? j := findIn_eraseIn k j m.entries

@[simp] theorem Store.find?_insert_self (m : Store ν) (k : Nat) (v : ν) : (m.insert k v).find? k = some v := by
  simp [Store.find?_insert]

theorem Store.find?_mapValues (f : ν → ν) (m : Store ν) (k : Nat) : (m.mapValues f).find? k = (m.find? k).map f := by
  obtain ⟨l⟩ := m
  simp only [Store.mapValues, Store.find?]
  induction l with
  | nil => rfl
  | cons e r ih => simp only [List.map_cons, findIn]; split <;> first | rfl | exact ih

/-- A read after a write of a table that holds a value at every key. -/
theorem Store.get_put [DecidableEq ν] (d v : ν) (m : Store ν) (k j : Nat) :
    Store.get d (Store.put d m k v) j = if j = k then v else Store.get d m j := by
  by_cases hv : v = d <;> by_cases hj : j = k <;> simp [Store.get, Store.put, hv, hj, Store.find?_erase, Store.find?_insert]

@[simp] theorem Store.get_empty (d : ν) (k : Nat) : Store.get d .empty k = d := rfl

theorem risingFrom_mono {lo lo' : Nat} (h : lo' ≤ lo) : ∀ l : List (Nat × ν), risingFrom lo l = true → risingFrom lo' l = true
  | [], _ => rfl
  | e :: r, hl => by
    simp only [risingFrom, Bool.and_eq_true, decide_eq_true_eq] at hl ⊢
    exact ⟨by omega, hl.2⟩

theorem risingFrom_insertIn {lo k : Nat} (v : ν) (hk : lo ≤ k) :
    ∀ l : List (Nat × ν), risingFrom lo l = true → risingFrom lo (insertIn k v l) = true
  | [], _ => by simp [insertIn, risingFrom, hk]
  | e :: r, hl => by
    simp only [risingFrom, Bool.and_eq_true, decide_eq_true_eq] at hl
    simp only [insertIn]
    split
    · simp only [risingFrom, Bool.and_eq_true, decide_eq_true_eq]
      exact ⟨hk, by omega, hl.2⟩
    · split
      · simp only [risingFrom, Bool.and_eq_true, decide_eq_true_eq]
        exact ⟨hk, by rename_i h; rw [← h]; exact hl.2⟩
      · simp only [risingFrom, Bool.and_eq_true, decide_eq_true_eq]
        exact ⟨hl.1, risingFrom_insertIn v (by omega) r hl.2⟩

theorem risingFrom_eraseIn {lo : Nat} (k : Nat) :
    ∀ l : List (Nat × ν), risingFrom lo l = true → risingFrom lo (eraseIn k l) = true
  | [], _ => rfl
  | e :: r, hl => by
    simp only [risingFrom, Bool.and_eq_true, decide_eq_true_eq] at hl
    simp only [eraseIn]
    split
    · exact risingFrom_eraseIn k r (risingFrom_mono (by omega) r hl.2)
    · simp only [risingFrom, Bool.and_eq_true, decide_eq_true_eq]
      exact ⟨hl.1, risingFrom_eraseIn k r hl.2⟩

theorem risingFrom_map {lo : Nat} (f : ν → ν) :
    ∀ l : List (Nat × ν), risingFrom lo (l.map fun e => (e.1, f e.2)) = risingFrom lo l
  | [] => rfl
  | e :: r => by simp [risingFrom, risingFrom_map f r]

theorem Store.sorted_empty : (Store.empty : Store ν).sorted = true := rfl

theorem Store.sorted_insert {m : Store ν} (h : m.sorted = true) (k : Nat) (v : ν) : (m.insert k v).sorted = true :=
  risingFrom_insertIn v (Nat.zero_le k) m.entries h

theorem Store.sorted_erase {m : Store ν} (h : m.sorted = true) (k : Nat) : (m.erase k).sorted = true :=
  risingFrom_eraseIn k m.entries h

theorem Store.sorted_mapValues (f : ν → ν) (m : Store ν) : (m.mapValues f).sorted = m.sorted :=
  risingFrom_map f m.entries

theorem mem_insertIn {k : Nat} {v : ν} {e : Nat × ν} : ∀ l : List (Nat × ν), e ∈ insertIn k v l → e = (k, v) ∨ e ∈ l
  | [], h => by simpa [insertIn] using h
  | a :: r, h => by
    simp only [insertIn] at h
    split at h
    · simpa using h
    · split at h
      · simp only [List.mem_cons] at h ⊢; tauto
      · simp only [List.mem_cons] at h ⊢
        rcases h with h | h
        · exact .inr (.inl h)
        · rcases mem_insertIn r h with h | h
          · exact .inl h
          · exact .inr (.inr h)

theorem mem_of_findIn {k : Nat} {v : ν} : ∀ {l : List (Nat × ν)}, findIn k l = some v → ∃ e ∈ l, e.2 = v
  | [], h => by simp [findIn] at h
  | e :: r, h => by
    unfold findIn at h
    split at h
    · exact ⟨e, by simp, by simpa using h⟩
    · obtain ⟨x, hx, hv⟩ := mem_of_findIn h
      exact ⟨x, by simp [hx], hv⟩

theorem mem_eraseIn {k : Nat} {e : Nat × ν} : ∀ l : List (Nat × ν), e ∈ eraseIn k l → e ∈ l
  | [], h => h
  | a :: r, h => by
    simp only [eraseIn] at h
    split at h
    · exact List.mem_cons_of_mem a (mem_eraseIn r h)
    · simp only [List.mem_cons] at h ⊢
      exact h.imp id (mem_eraseIn r)

/-- A write of a table that holds a value at every key keeps its canonical form. -/
theorem Store.lists_put [DecidableEq ν] {d : ν} {m : Store ν} (h : m.lists d = true) (k : Nat) (v : ν) :
    (Store.put d m k v).lists d = true := by
  simp only [Store.lists, Bool.and_eq_true, List.all_eq_true, decide_eq_true_eq] at h ⊢
  unfold Store.put
  split
  · exact ⟨sorted_erase h.1 k, fun e he => h.2 e (mem_eraseIn _ he)⟩
  · rename_i hv
    refine ⟨sorted_insert h.1 k v, fun e he => ?_⟩
    rcases mem_insertIn _ he with rfl | he
    · exact hv
    · exact h.2 e he

end Sys2Proof.Machine
end

