-- ==== Sys2Proof/Laws/Ports.lean ====
section
/-! SUPPORT. What the accessors, the raises, the captures and the port operations read and leave. -/

namespace Sys2Proof.Machine

variable (s : State)

/-! Cases, totes -/

@[simp] theorem State.case?_setCase (t u : Tag) (c : Case) :
    (s.setCase t c).case? u = if u = t then some c else s.case? u := by
  simp only [State.case?, State.setCase, State.withCases_cases, Store.find?_insert, BitVec.toNat_inj]

@[simp] theorem State.tote_setTote (t u : ToteNo) (k : Tote) : (s.setTote t k).tote u = if u = t then k else s.tote u := by
  simp only [State.tote, State.setTote, State.withTotes_totes, Store.get_put, BitVec.toNat_inj]

/-- Two cases read the same when the case tables are the same. -/
theorem State.case?_of_cases {s t : State} (h : t.cases = s.cases) (u : Tag) : t.case? u = s.case? u := by
  simp only [State.case?, h]

theorem State.tote_of_totes {s t : State} (h : t.totes = s.totes) (u : ToteNo) : t.tote u = s.tote u := by
  simp only [State.tote, h]

/-! Ports -/

@[simp] theorem State.port_updPorts (f : Port → PortState → PortState) (p : Port) :
    (s.updPorts f).port p = f p (s.port p) := by
  fin_cases p <;> rfl

/-- Two states whose ports all read the same hold the same ports. -/
theorem State.ports_ext {s t : State} (h : ∀ p, t.port p = s.port p) : t.ports = s.ports :=
  Vector.ext fun i hi => h ⟨i, hi⟩

@[simp] theorem State.port_updPort (p q : Port) (f : PortState → PortState) :
    (s.updPort p f).port q = if q = p then f (s.port q) else s.port q := by
  simp only [State.updPort, State.port_updPorts]

@[simp] theorem State.updPorts_updPorts (f g : Port → PortState → PortState) :
    (s.updPorts f).updPorts g = s.updPorts fun p x => g p (f p x) := rfl

theorem State.updPorts_congr {f g : Port → PortState → PortState} (h : ∀ p, f p (s.port p) = g p (s.port p)) :
    s.updPorts f = s.updPorts g :=
  congrArg s.withPorts (State.ports_ext (s := s.updPorts g) (t := s.updPorts f) fun p => by
    rw [State.port_updPorts, State.port_updPorts, h])

theorem State.updPorts_id : s.updPorts (fun _ x => x) = s :=
  congrArg s.withPorts (State.ports_ext (s := s) (t := s.updPorts fun _ x => x) fun p => State.port_updPorts s _ p)

/-- A port update changes nothing but the ports. -/
theorem State.updPorts_eq (f : Port → PortState → PortState) : s.updPorts f = s.withPorts (s.updPorts f).ports := rfl

theorem State.updPort_updPort (p : Port) (f g : PortState → PortState) :
    (s.updPort p f).updPort p g = s.updPort p fun x => g (f x) := by
  simp only [State.updPort, State.updPorts_updPorts]
  apply State.updPorts_congr
  intro q
  by_cases h : q = p <;> simp [h]

@[simp] theorem State.port_raise (who : Port → PortState → Bool) (c : Cause) (d : Detail) (p : Port) :
    (s.raise who c d).port p = if who p (s.port p) then (s.port p).raised c d else s.port p := by
  simp only [State.raise, State.port_updPorts]

@[simp] theorem PortState.raised_role (x : PortState) (c : Cause) (d : Detail) : (x.raised c d).role = x.role := rfl
@[simp] theorem PortState.raised_service (x : PortState) (c : Cause) (d : Detail) : (x.raised c d).service = x.service := rfl
@[simp] theorem PortState.raised_waiting (x : PortState) (c : Cause) (d : Detail) : (x.raised c d).waiting = x.waiting := rfl
@[simp] theorem PortState.raised_assembler (x : PortState) (c : Cause) (d : Detail) : (x.raised c d).assembler = x.assembler := rfl
@[simp] theorem PortState.raised_line (x : PortState) (c : Cause) (d : Detail) : (x.raised c d).line = x.line := rfl
@[simp] theorem PortState.raised_enabled (x : PortState) (c : Cause) (d : Detail) : (x.raised c d).enabled = x.enabled := rfl
@[simp] theorem PortState.raised_inBreak (x : PortState) (c : Cause) (d : Detail) : (x.raised c d).inBreak = x.inBreak := rfl

theorem Cause.priority_inj {c d : Cause} (h : c.priority = d.priority) : c = d := by
  cases c <;> cases d <;> first | rfl | exact absurd h (by decide)

/-- A raise makes its cause pending with the new detail and leaves the other causes (R149). -/
@[simp] theorem PortState.notice?_raised (x : PortState) (c e : Cause) (d : Detail) :
    (x.raised c d).notice? e = if e = c then some d else x.notice? e := by
  have h : (e.priority = c.priority) ↔ (e = c) := ⟨Cause.priority_inj, fun h => h ▸ rfl⟩
  simp only [PortState.notice?, PortState.raised, PortState.refreshAttn, Store.find?_insert, h]

/-- A Query Notice clears its cause and leaves the others (R151). -/
@[simp] theorem PortState.notice?_cleared (x : PortState) (c e : Cause) :
    (x.cleared c).notice? e = if e = c then none else x.notice? e := by
  have h : (e.priority = c.priority) ↔ (e = c) := ⟨Cause.priority_inj, fun h => h ▸ rfl⟩
  simp only [PortState.notice?, PortState.cleared, PortState.refreshAttn, Store.find?_erase, h]

/-- R150 holds of a port whose ATTN line has just been set. -/
theorem PortState.attn_refreshAttn (x : PortState) : x.refreshAttn.attn = x.refreshAttn.attnLevel := rfl
theorem PortState.attn_raised (x : PortState) (c : Cause) (d : Detail) : (x.raised c d).attn = (x.raised c d).attnLevel := rfl
theorem PortState.attn_cleared (x : PortState) (c : Cause) : (x.cleared c).attn = (x.cleared c).attnLevel := rfl

/-! What an accessor reads after an update -/

@[simp] theorem State.port_withCases (x : Store Case) (p : Port) : (s.withCases x).port p = s.port p := rfl
@[simp] theorem State.tote_withCases (x : Store Case) (t : ToteNo) : (s.withCases x).tote t = s.tote t := rfl
@[simp] theorem State.port_withGradingQueue (x : List Submission) (p : Port) : (s.withGradingQueue x).port p = s.port p := rfl
@[simp] theorem State.case?_withGradingQueue (x : List Submission) (t : Tag) : (s.withGradingQueue x).case? t = s.case? t := rfl
@[simp] theorem State.tote_withGradingQueue (x : List Submission) (t : ToteNo) : (s.withGradingQueue x).tote t = s.tote t := rfl
@[simp] theorem State.port_withEngine (x : Option Computation) (p : Port) : (s.withEngine x).port p = s.port p := rfl
@[simp] theorem State.case?_withEngine (x : Option Computation) (t : Tag) : (s.withEngine x).case? t = s.case? t := rfl
@[simp] theorem State.tote_withEngine (x : Option Computation) (t : ToteNo) : (s.withEngine x).tote t = s.tote t := rfl
@[simp] theorem State.port_withWeights (x : Store (Store WeightEntry)) (p : Port) : (s.withWeights x).port p = s.port p := rfl
@[simp] theorem State.case?_withWeights (x : Store (Store WeightEntry)) (t : Tag) : (s.withWeights x).case? t = s.case? t := rfl
@[simp] theorem State.tote_withWeights (x : Store (Store WeightEntry)) (t : ToteNo) : (s.withWeights x).tote t = s.tote t := rfl
@[simp] theorem State.port_withCategories (x : Store CategoryRecord) (p : Port) : (s.withCategories x).port p = s.port p := rfl
@[simp] theorem State.case?_withCategories (x : Store CategoryRecord) (t : Tag) : (s.withCategories x).case? t = s.case? t := rfl
@[simp] theorem State.tote_withCategories (x : Store CategoryRecord) (t : ToteNo) : (s.withCategories x).tote t = s.tote t := rfl
@[simp] theorem State.port_withSampler (x : BitVec 16) (p : Port) : (s.withSampler x).port p = s.port p := rfl
@[simp] theorem State.case?_withSampler (x : BitVec 16) (t : Tag) : (s.withSampler x).case? t = s.case? t := rfl
@[simp] theorem State.tote_withSampler (x : BitVec 16) (t : ToteNo) : (s.withSampler x).tote t = s.tote t := rfl
@[simp] theorem State.port_withToteMap (x : Store ToteNo) (p : Port) : (s.withToteMap x).port p = s.port p := rfl
@[simp] theorem State.case?_withToteMap (x : Store ToteNo) (t : Tag) : (s.withToteMap x).case? t = s.case? t := rfl
@[simp] theorem State.tote_withToteMap (x : Store ToteNo) (t : ToteNo) : (s.withToteMap x).tote t = s.tote t := rfl
@[simp] theorem State.port_withStopped (x : Bool) (p : Port) : (s.withStopped x).port p = s.port p := rfl
@[simp] theorem State.case?_withStopped (x : Bool) (t : Tag) : (s.withStopped x).case? t = s.case? t := rfl
@[simp] theorem State.tote_withStopped (x : Bool) (t : ToteNo) : (s.withStopped x).tote t = s.tote t := rfl
@[simp] theorem State.port_withTotes (x : Store Tote) (p : Port) : (s.withTotes x).port p = s.port p := rfl
@[simp] theorem State.case?_withTotes (x : Store Tote) (t : Tag) : (s.withTotes x).case? t = s.case? t := rfl
@[simp] theorem State.port_withOutbound (x : List DepartureRecord) (p : Port) : (s.withOutbound x).port p = s.port p := rfl
@[simp] theorem State.case?_withOutbound (x : List DepartureRecord) (t : Tag) : (s.withOutbound x).case? t = s.case? t := rfl
@[simp] theorem State.tote_withOutbound (x : List DepartureRecord) (t : ToteNo) : (s.withOutbound x).tote t = s.tote t := rfl
@[simp] theorem State.port_withCalendar (x : Calendar) (p : Port) : (s.withCalendar x).port p = s.port p := rfl
@[simp] theorem State.case?_withCalendar (x : Calendar) (t : Tag) : (s.withCalendar x).case? t = s.case? t := rfl
@[simp] theorem State.tote_withCalendar (x : Calendar) (t : ToteNo) : (s.withCalendar x).tote t = s.tote t := rfl
@[simp] theorem State.case?_withPorts (x : Vector PortState 8) (t : Tag) : (s.withPorts x).case? t = s.case? t := rfl
@[simp] theorem State.tote_withPorts (x : Vector PortState 8) (t : ToteNo) : (s.withPorts x).tote t = s.tote t := rfl
@[simp] theorem State.port_withErrors (x : ErrorCapture) (p : Port) : (s.withErrors x).port p = s.port p := rfl
@[simp] theorem State.case?_withErrors (x : ErrorCapture) (t : Tag) : (s.withErrors x).case? t = s.case? t := rfl
@[simp] theorem State.tote_withErrors (x : ErrorCapture) (t : ToteNo) : (s.withErrors x).tote t = s.tote t := rfl
@[simp] theorem State.port_withMode (x : Mode) (p : Port) : (s.withMode x).port p = s.port p := rfl
@[simp] theorem State.case?_withMode (x : Mode) (t : Tag) : (s.withMode x).case? t = s.case? t := rfl
@[simp] theorem State.tote_withMode (x : Mode) (t : ToteNo) : (s.withMode x).tote t = s.tote t := rfl
@[simp] theorem State.port_withSettings (x : Settings) (p : Port) : (s.withSettings x).port p = s.port p := rfl
@[simp] theorem State.case?_withSettings (x : Settings) (t : Tag) : (s.withSettings x).case? t = s.case? t := rfl
@[simp] theorem State.tote_withSettings (x : Settings) (t : ToteNo) : (s.withSettings x).tote t = s.tote t := rfl
@[simp] theorem State.port_withFreeCount (x : Nat) (p : Port) : (s.withFreeCount x).port p = s.port p := rfl
@[simp] theorem State.case?_withFreeCount (x : Nat) (t : Tag) : (s.withFreeCount x).case? t = s.case? t := rfl
@[simp] theorem State.tote_withFreeCount (x : Nat) (t : ToteNo) : (s.withFreeCount x).tote t = s.tote t := rfl
@[simp] theorem State.port_withPending (x : List Instr) (p : Port) : (s.withPending x).port p = s.port p := rfl
@[simp] theorem State.case?_withPending (x : List Instr) (t : Tag) : (s.withPending x).case? t = s.case? t := rfl
@[simp] theorem State.tote_withPending (x : List Instr) (t : ToteNo) : (s.withPending x).tote t = s.tote t := rfl

/-! What an operation on ports leaves -/

@[simp] theorem State.updPorts_cases (f : Port → PortState → PortState) : (s.updPorts f).cases = s.cases := rfl
@[simp] theorem State.updPorts_gradingQueue (f : Port → PortState → PortState) : (s.updPorts f).gradingQueue = s.gradingQueue := rfl
@[simp] theorem State.updPorts_engine (f : Port → PortState → PortState) : (s.updPorts f).engine = s.engine := rfl
@[simp] theorem State.updPorts_weights (f : Port → PortState → PortState) : (s.updPorts f).weights = s.weights := rfl
@[simp] theorem State.updPorts_categories (f : Port → PortState → PortState) : (s.updPorts f).categories = s.categories := rfl
@[simp] theorem State.updPorts_sampler (f : Port → PortState → PortState) : (s.updPorts f).sampler = s.sampler := rfl
@[simp] theorem State.updPorts_toteMap (f : Port → PortState → PortState) : (s.updPorts f).toteMap = s.toteMap := rfl
@[simp] theorem State.updPorts_stopped (f : Port → PortState → PortState) : (s.updPorts f).stopped = s.stopped := rfl
@[simp] theorem State.updPorts_totes (f : Port → PortState → PortState) : (s.updPorts f).totes = s.totes := rfl
@[simp] theorem State.updPorts_outbound (f : Port → PortState → PortState) : (s.updPorts f).outbound = s.outbound := rfl
@[simp] theorem State.updPorts_calendar (f : Port → PortState → PortState) : (s.updPorts f).calendar = s.calendar := rfl
@[simp] theorem State.updPorts_errors (f : Port → PortState → PortState) : (s.updPorts f).errors = s.errors := rfl
@[simp] theorem State.updPorts_mode (f : Port → PortState → PortState) : (s.updPorts f).mode = s.mode := rfl
@[simp] theorem State.updPorts_settings (f : Port → PortState → PortState) : (s.updPorts f).settings = s.settings := rfl
@[simp] theorem State.updPorts_lineRate (f : Port → PortState → PortState) : (s.updPorts f).lineRate = s.lineRate := rfl
@[simp] theorem State.updPorts_freeCount (f : Port → PortState → PortState) : (s.updPorts f).freeCount = s.freeCount := rfl
@[simp] theorem State.updPorts_pending (f : Port → PortState → PortState) : (s.updPorts f).pending = s.pending := rfl

@[simp] theorem State.updPort_cases (p : Port) (f : PortState → PortState) : (s.updPort p f).cases = s.cases := rfl
@[simp] theorem State.updPort_gradingQueue (p : Port) (f : PortState → PortState) : (s.updPort p f).gradingQueue = s.gradingQueue := rfl
@[simp] theorem State.updPort_engine (p : Port) (f : PortState → PortState) : (s.updPort p f).engine = s.engine := rfl
@[simp] theorem State.updPort_weights (p : Port) (f : PortState → PortState) : (s.updPort p f).weights = s.weights := rfl
@[simp] theorem State.updPort_categories (p : Port) (f : PortState → PortState) : (s.updPort p f).categories = s.categories := rfl
@[simp] theorem State.updPort_sampler (p : Port) (f : PortState → PortState) : (s.updPort p f).sampler = s.sampler := rfl
@[simp] theorem State.updPort_toteMap (p : Port) (f : PortState → PortState) : (s.updPort p f).toteMap = s.toteMap := rfl
@[simp] theorem State.updPort_stopped (p : Port) (f : PortState → PortState) : (s.updPort p f).stopped = s.stopped := rfl
@[simp] theorem State.updPort_totes (p : Port) (f : PortState → PortState) : (s.updPort p f).totes = s.totes := rfl
@[simp] theorem State.updPort_outbound (p : Port) (f : PortState → PortState) : (s.updPort p f).outbound = s.outbound := rfl
@[simp] theorem State.updPort_calendar (p : Port) (f : PortState → PortState) : (s.updPort p f).calendar = s.calendar := rfl
@[simp] theorem State.updPort_errors (p : Port) (f : PortState → PortState) : (s.updPort p f).errors = s.errors := rfl
@[simp] theorem State.updPort_mode (p : Port) (f : PortState → PortState) : (s.updPort p f).mode = s.mode := rfl
@[simp] theorem State.updPort_settings (p : Port) (f : PortState → PortState) : (s.updPort p f).settings = s.settings := rfl
@[simp] theorem State.updPort_lineRate (p : Port) (f : PortState → PortState) : (s.updPort p f).lineRate = s.lineRate := rfl
@[simp] theorem State.updPort_freeCount (p : Port) (f : PortState → PortState) : (s.updPort p f).freeCount = s.freeCount := rfl
@[simp] theorem State.updPort_pending (p : Port) (f : PortState → PortState) : (s.updPort p f).pending = s.pending := rfl

@[simp] theorem State.raise_cases (who : Port → PortState → Bool) (c : Cause) (d : Detail) : (s.raise who c d).cases = s.cases := rfl
@[simp] theorem State.raise_gradingQueue (who : Port → PortState → Bool) (c : Cause) (d : Detail) : (s.raise who c d).gradingQueue = s.gradingQueue := rfl
@[simp] theorem State.raise_engine (who : Port → PortState → Bool) (c : Cause) (d : Detail) : (s.raise who c d).engine = s.engine := rfl
@[simp] theorem State.raise_weights (who : Port → PortState → Bool) (c : Cause) (d : Detail) : (s.raise who c d).weights = s.weights := rfl
@[simp] theorem State.raise_categories (who : Port → PortState → Bool) (c : Cause) (d : Detail) : (s.raise who c d).categories = s.categories := rfl
@[simp] theorem State.raise_sampler (who : Port → PortState → Bool) (c : Cause) (d : Detail) : (s.raise who c d).sampler = s.sampler := rfl
@[simp] theorem State.raise_toteMap (who : Port → PortState → Bool) (c : Cause) (d : Detail) : (s.raise who c d).toteMap = s.toteMap := rfl
@[simp] theorem State.raise_stopped (who : Port → PortState → Bool) (c : Cause) (d : Detail) : (s.raise who c d).stopped = s.stopped := rfl
@[simp] theorem State.raise_totes (who : Port → PortState → Bool) (c : Cause) (d : Detail) : (s.raise who c d).totes = s.totes := rfl
@[simp] theorem State.raise_outbound (who : Port → PortState → Bool) (c : Cause) (d : Detail) : (s.raise who c d).outbound = s.outbound := rfl
@[simp] theorem State.raise_calendar (who : Port → PortState → Bool) (c : Cause) (d : Detail) : (s.raise who c d).calendar = s.calendar := rfl
@[simp] theorem State.raise_errors (who : Port → PortState → Bool) (c : Cause) (d : Detail) : (s.raise who c d).errors = s.errors := rfl
@[simp] theorem State.raise_mode (who : Port → PortState → Bool) (c : Cause) (d : Detail) : (s.raise who c d).mode = s.mode := rfl
@[simp] theorem State.raise_settings (who : Port → PortState → Bool) (c : Cause) (d : Detail) : (s.raise who c d).settings = s.settings := rfl
@[simp] theorem State.raise_lineRate (who : Port → PortState → Bool) (c : Cause) (d : Detail) : (s.raise who c d).lineRate = s.lineRate := rfl
@[simp] theorem State.raise_freeCount (who : Port → PortState → Bool) (c : Cause) (d : Detail) : (s.raise who c d).freeCount = s.freeCount := rfl
@[simp] theorem State.raise_pending (who : Port → PortState → Bool) (c : Cause) (d : Detail) : (s.raise who c d).pending = s.pending := rfl

@[simp] theorem State.raiseAuditReady_cases (t : Tag) : (s.raiseAuditReady t).cases = s.cases := rfl
@[simp] theorem State.raiseAuditReady_gradingQueue (t : Tag) : (s.raiseAuditReady t).gradingQueue = s.gradingQueue := rfl
@[simp] theorem State.raiseAuditReady_engine (t : Tag) : (s.raiseAuditReady t).engine = s.engine := rfl
@[simp] theorem State.raiseAuditReady_weights (t : Tag) : (s.raiseAuditReady t).weights = s.weights := rfl
@[simp] theorem State.raiseAuditReady_categories (t : Tag) : (s.raiseAuditReady t).categories = s.categories := rfl
@[simp] theorem State.raiseAuditReady_sampler (t : Tag) : (s.raiseAuditReady t).sampler = s.sampler := rfl
@[simp] theorem State.raiseAuditReady_toteMap (t : Tag) : (s.raiseAuditReady t).toteMap = s.toteMap := rfl
@[simp] theorem State.raiseAuditReady_stopped (t : Tag) : (s.raiseAuditReady t).stopped = s.stopped := rfl
@[simp] theorem State.raiseAuditReady_totes (t : Tag) : (s.raiseAuditReady t).totes = s.totes := rfl
@[simp] theorem State.raiseAuditReady_outbound (t : Tag) : (s.raiseAuditReady t).outbound = s.outbound := rfl
@[simp] theorem State.raiseAuditReady_calendar (t : Tag) : (s.raiseAuditReady t).calendar = s.calendar := rfl
@[simp] theorem State.raiseAuditReady_errors (t : Tag) : (s.raiseAuditReady t).errors = s.errors := rfl
@[simp] theorem State.raiseAuditReady_mode (t : Tag) : (s.raiseAuditReady t).mode = s.mode := rfl
@[simp] theorem State.raiseAuditReady_settings (t : Tag) : (s.raiseAuditReady t).settings = s.settings := rfl
@[simp] theorem State.raiseAuditReady_lineRate (t : Tag) : (s.raiseAuditReady t).lineRate = s.lineRate := rfl
@[simp] theorem State.raiseAuditReady_freeCount (t : Tag) : (s.raiseAuditReady t).freeCount = s.freeCount := rfl
@[simp] theorem State.raiseAuditReady_pending (t : Tag) : (s.raiseAuditReady t).pending = s.pending := rfl

@[simp] theorem State.raiseSwapDone_cases (t : ToteNo) : (s.raiseSwapDone t).cases = s.cases := rfl
@[simp] theorem State.raiseSwapDone_gradingQueue (t : ToteNo) : (s.raiseSwapDone t).gradingQueue = s.gradingQueue := rfl
@[simp] theorem State.raiseSwapDone_engine (t : ToteNo) : (s.raiseSwapDone t).engine = s.engine := rfl
@[simp] theorem State.raiseSwapDone_weights (t : ToteNo) : (s.raiseSwapDone t).weights = s.weights := rfl
@[simp] theorem State.raiseSwapDone_categories (t : ToteNo) : (s.raiseSwapDone t).categories = s.categories := rfl
@[simp] theorem State.raiseSwapDone_sampler (t : ToteNo) : (s.raiseSwapDone t).sampler = s.sampler := rfl
@[simp] theorem State.raiseSwapDone_toteMap (t : ToteNo) : (s.raiseSwapDone t).toteMap = s.toteMap := rfl
@[simp] theorem State.raiseSwapDone_stopped (t : ToteNo) : (s.raiseSwapDone t).stopped = s.stopped := rfl
@[simp] theorem State.raiseSwapDone_totes (t : ToteNo) : (s.raiseSwapDone t).totes = s.totes := rfl
@[simp] theorem State.raiseSwapDone_outbound (t : ToteNo) : (s.raiseSwapDone t).outbound = s.outbound := rfl
@[simp] theorem State.raiseSwapDone_calendar (t : ToteNo) : (s.raiseSwapDone t).calendar = s.calendar := rfl
@[simp] theorem State.raiseSwapDone_errors (t : ToteNo) : (s.raiseSwapDone t).errors = s.errors := rfl
@[simp] theorem State.raiseSwapDone_mode (t : ToteNo) : (s.raiseSwapDone t).mode = s.mode := rfl
@[simp] theorem State.raiseSwapDone_settings (t : ToteNo) : (s.raiseSwapDone t).settings = s.settings := rfl
@[simp] theorem State.raiseSwapDone_lineRate (t : ToteNo) : (s.raiseSwapDone t).lineRate = s.lineRate := rfl
@[simp] theorem State.raiseSwapDone_freeCount (t : ToteNo) : (s.raiseSwapDone t).freeCount = s.freeCount := rfl
@[simp] theorem State.raiseSwapDone_pending (t : ToteNo) : (s.raiseSwapDone t).pending = s.pending := rfl

@[simp] theorem State.lineFault_cases (p : Port) (g : LineStatus → LineStatus) : (s.lineFault p g).cases = s.cases := rfl
@[simp] theorem State.lineFault_gradingQueue (p : Port) (g : LineStatus → LineStatus) : (s.lineFault p g).gradingQueue = s.gradingQueue := rfl
@[simp] theorem State.lineFault_engine (p : Port) (g : LineStatus → LineStatus) : (s.lineFault p g).engine = s.engine := rfl
@[simp] theorem State.lineFault_weights (p : Port) (g : LineStatus → LineStatus) : (s.lineFault p g).weights = s.weights := rfl
@[simp] theorem State.lineFault_categories (p : Port) (g : LineStatus → LineStatus) : (s.lineFault p g).categories = s.categories := rfl
@[simp] theorem State.lineFault_sampler (p : Port) (g : LineStatus → LineStatus) : (s.lineFault p g).sampler = s.sampler := rfl
@[simp] theorem State.lineFault_toteMap (p : Port) (g : LineStatus → LineStatus) : (s.lineFault p g).toteMap = s.toteMap := rfl
@[simp] theorem State.lineFault_stopped (p : Port) (g : LineStatus → LineStatus) : (s.lineFault p g).stopped = s.stopped := rfl
@[simp] theorem State.lineFault_totes (p : Port) (g : LineStatus → LineStatus) : (s.lineFault p g).totes = s.totes := rfl
@[simp] theorem State.lineFault_outbound (p : Port) (g : LineStatus → LineStatus) : (s.lineFault p g).outbound = s.outbound := rfl
@[simp] theorem State.lineFault_calendar (p : Port) (g : LineStatus → LineStatus) : (s.lineFault p g).calendar = s.calendar := rfl
@[simp] theorem State.lineFault_errors (p : Port) (g : LineStatus → LineStatus) : (s.lineFault p g).errors = s.errors := rfl
@[simp] theorem State.lineFault_mode (p : Port) (g : LineStatus → LineStatus) : (s.lineFault p g).mode = s.mode := rfl
@[simp] theorem State.lineFault_settings (p : Port) (g : LineStatus → LineStatus) : (s.lineFault p g).settings = s.settings := rfl
@[simp] theorem State.lineFault_lineRate (p : Port) (g : LineStatus → LineStatus) : (s.lineFault p g).lineRate = s.lineRate := rfl
@[simp] theorem State.lineFault_freeCount (p : Port) (g : LineStatus → LineStatus) : (s.lineFault p g).freeCount = s.freeCount := rfl
@[simp] theorem State.lineFault_pending (p : Port) (g : LineStatus → LineStatus) : (s.lineFault p g).pending = s.pending := rfl

@[simp] theorem State.setReply_cases (p : Port) (n : Byte) (r : Request) (a : Answer) : (s.setReply p n r a).cases = s.cases := rfl
@[simp] theorem State.setReply_gradingQueue (p : Port) (n : Byte) (r : Request) (a : Answer) : (s.setReply p n r a).gradingQueue = s.gradingQueue := rfl
@[simp] theorem State.setReply_engine (p : Port) (n : Byte) (r : Request) (a : Answer) : (s.setReply p n r a).engine = s.engine := rfl
@[simp] theorem State.setReply_weights (p : Port) (n : Byte) (r : Request) (a : Answer) : (s.setReply p n r a).weights = s.weights := rfl
@[simp] theorem State.setReply_categories (p : Port) (n : Byte) (r : Request) (a : Answer) : (s.setReply p n r a).categories = s.categories := rfl
@[simp] theorem State.setReply_sampler (p : Port) (n : Byte) (r : Request) (a : Answer) : (s.setReply p n r a).sampler = s.sampler := rfl
@[simp] theorem State.setReply_toteMap (p : Port) (n : Byte) (r : Request) (a : Answer) : (s.setReply p n r a).toteMap = s.toteMap := rfl
@[simp] theorem State.setReply_stopped (p : Port) (n : Byte) (r : Request) (a : Answer) : (s.setReply p n r a).stopped = s.stopped := rfl
@[simp] theorem State.setReply_totes (p : Port) (n : Byte) (r : Request) (a : Answer) : (s.setReply p n r a).totes = s.totes := rfl
@[simp] theorem State.setReply_outbound (p : Port) (n : Byte) (r : Request) (a : Answer) : (s.setReply p n r a).outbound = s.outbound := rfl
@[simp] theorem State.setReply_calendar (p : Port) (n : Byte) (r : Request) (a : Answer) : (s.setReply p n r a).calendar = s.calendar := rfl
@[simp] theorem State.setReply_errors (p : Port) (n : Byte) (r : Request) (a : Answer) : (s.setReply p n r a).errors = s.errors := rfl
@[simp] theorem State.setReply_mode (p : Port) (n : Byte) (r : Request) (a : Answer) : (s.setReply p n r a).mode = s.mode := rfl
@[simp] theorem State.setReply_settings (p : Port) (n : Byte) (r : Request) (a : Answer) : (s.setReply p n r a).settings = s.settings := rfl
@[simp] theorem State.setReply_lineRate (p : Port) (n : Byte) (r : Request) (a : Answer) : (s.setReply p n r a).lineRate = s.lineRate := rfl
@[simp] theorem State.setReply_freeCount (p : Port) (n : Byte) (r : Request) (a : Answer) : (s.setReply p n r a).freeCount = s.freeCount := rfl
@[simp] theorem State.setReply_pending (p : Port) (n : Byte) (r : Request) (a : Answer) : (s.setReply p n r a).pending = s.pending := rfl

@[simp] theorem State.replyGrade_cases (p : Port) (r : GradeResult) : (s.replyGrade p r).cases = s.cases := rfl
@[simp] theorem State.replyGrade_gradingQueue (p : Port) (r : GradeResult) : (s.replyGrade p r).gradingQueue = s.gradingQueue := rfl
@[simp] theorem State.replyGrade_engine (p : Port) (r : GradeResult) : (s.replyGrade p r).engine = s.engine := rfl
@[simp] theorem State.replyGrade_weights (p : Port) (r : GradeResult) : (s.replyGrade p r).weights = s.weights := rfl
@[simp] theorem State.replyGrade_categories (p : Port) (r : GradeResult) : (s.replyGrade p r).categories = s.categories := rfl
@[simp] theorem State.replyGrade_sampler (p : Port) (r : GradeResult) : (s.replyGrade p r).sampler = s.sampler := rfl
@[simp] theorem State.replyGrade_toteMap (p : Port) (r : GradeResult) : (s.replyGrade p r).toteMap = s.toteMap := rfl
@[simp] theorem State.replyGrade_stopped (p : Port) (r : GradeResult) : (s.replyGrade p r).stopped = s.stopped := rfl
@[simp] theorem State.replyGrade_totes (p : Port) (r : GradeResult) : (s.replyGrade p r).totes = s.totes := rfl
@[simp] theorem State.replyGrade_outbound (p : Port) (r : GradeResult) : (s.replyGrade p r).outbound = s.outbound := rfl
@[simp] theorem State.replyGrade_calendar (p : Port) (r : GradeResult) : (s.replyGrade p r).calendar = s.calendar := rfl
@[simp] theorem State.replyGrade_errors (p : Port) (r : GradeResult) : (s.replyGrade p r).errors = s.errors := rfl
@[simp] theorem State.replyGrade_mode (p : Port) (r : GradeResult) : (s.replyGrade p r).mode = s.mode := rfl
@[simp] theorem State.replyGrade_settings (p : Port) (r : GradeResult) : (s.replyGrade p r).settings = s.settings := rfl
@[simp] theorem State.replyGrade_lineRate (p : Port) (r : GradeResult) : (s.replyGrade p r).lineRate = s.lineRate := rfl
@[simp] theorem State.replyGrade_freeCount (p : Port) (r : GradeResult) : (s.replyGrade p r).freeCount = s.freeCount := rfl
@[simp] theorem State.replyGrade_pending (p : Port) (r : GradeResult) : (s.replyGrade p r).pending = s.pending := rfl

@[simp] theorem State.announceReturn_cases (t : Tag) (b : CaseState) : (s.announceReturn t b).cases = s.cases := by unfold State.announceReturn; split <;> rfl
@[simp] theorem State.announceReturn_gradingQueue (t : Tag) (b : CaseState) : (s.announceReturn t b).gradingQueue = s.gradingQueue := by unfold State.announceReturn; split <;> rfl
@[simp] theorem State.announceReturn_engine (t : Tag) (b : CaseState) : (s.announceReturn t b).engine = s.engine := by unfold State.announceReturn; split <;> rfl
@[simp] theorem State.announceReturn_weights (t : Tag) (b : CaseState) : (s.announceReturn t b).weights = s.weights := by unfold State.announceReturn; split <;> rfl
@[simp] theorem State.announceReturn_categories (t : Tag) (b : CaseState) : (s.announceReturn t b).categories = s.categories := by unfold State.announceReturn; split <;> rfl
@[simp] theorem State.announceReturn_sampler (t : Tag) (b : CaseState) : (s.announceReturn t b).sampler = s.sampler := by unfold State.announceReturn; split <;> rfl
@[simp] theorem State.announceReturn_toteMap (t : Tag) (b : CaseState) : (s.announceReturn t b).toteMap = s.toteMap := by unfold State.announceReturn; split <;> rfl
@[simp] theorem State.announceReturn_stopped (t : Tag) (b : CaseState) : (s.announceReturn t b).stopped = s.stopped := by unfold State.announceReturn; split <;> rfl
@[simp] theorem State.announceReturn_totes (t : Tag) (b : CaseState) : (s.announceReturn t b).totes = s.totes := by unfold State.announceReturn; split <;> rfl
@[simp] theorem State.announceReturn_outbound (t : Tag) (b : CaseState) : (s.announceReturn t b).outbound = s.outbound := by unfold State.announceReturn; split <;> rfl
@[simp] theorem State.announceReturn_calendar (t : Tag) (b : CaseState) : (s.announceReturn t b).calendar = s.calendar := by unfold State.announceReturn; split <;> rfl
@[simp] theorem State.announceReturn_errors (t : Tag) (b : CaseState) : (s.announceReturn t b).errors = s.errors := by unfold State.announceReturn; split <;> rfl
@[simp] theorem State.announceReturn_mode (t : Tag) (b : CaseState) : (s.announceReturn t b).mode = s.mode := by unfold State.announceReturn; split <;> rfl
@[simp] theorem State.announceReturn_settings (t : Tag) (b : CaseState) : (s.announceReturn t b).settings = s.settings := by unfold State.announceReturn; split <;> rfl
@[simp] theorem State.announceReturn_lineRate (t : Tag) (b : CaseState) : (s.announceReturn t b).lineRate = s.lineRate := by unfold State.announceReturn; split <;> rfl
@[simp] theorem State.announceReturn_freeCount (t : Tag) (b : CaseState) : (s.announceReturn t b).freeCount = s.freeCount := by unfold State.announceReturn; split <;> rfl
@[simp] theorem State.announceReturn_pending (t : Tag) (b : CaseState) : (s.announceReturn t b).pending = s.pending := by unfold State.announceReturn; split <;> rfl

@[simp] theorem State.raiseQuarantine_cases (t : Tag) (b : Option Band) : (s.raiseQuarantine t b).cases = s.cases := by unfold State.raiseQuarantine; split <;> rfl
@[simp] theorem State.raiseQuarantine_gradingQueue (t : Tag) (b : Option Band) : (s.raiseQuarantine t b).gradingQueue = s.gradingQueue := by unfold State.raiseQuarantine; split <;> rfl
@[simp] theorem State.raiseQuarantine_engine (t : Tag) (b : Option Band) : (s.raiseQuarantine t b).engine = s.engine := by unfold State.raiseQuarantine; split <;> rfl
@[simp] theorem State.raiseQuarantine_weights (t : Tag) (b : Option Band) : (s.raiseQuarantine t b).weights = s.weights := by unfold State.raiseQuarantine; split <;> rfl
@[simp] theorem State.raiseQuarantine_categories (t : Tag) (b : Option Band) : (s.raiseQuarantine t b).categories = s.categories := by unfold State.raiseQuarantine; split <;> rfl
@[simp] theorem State.raiseQuarantine_sampler (t : Tag) (b : Option Band) : (s.raiseQuarantine t b).sampler = s.sampler := by unfold State.raiseQuarantine; split <;> rfl
@[simp] theorem State.raiseQuarantine_toteMap (t : Tag) (b : Option Band) : (s.raiseQuarantine t b).toteMap = s.toteMap := by unfold State.raiseQuarantine; split <;> rfl
@[simp] theorem State.raiseQuarantine_stopped (t : Tag) (b : Option Band) : (s.raiseQuarantine t b).stopped = s.stopped := by unfold State.raiseQuarantine; split <;> rfl
@[simp] theorem State.raiseQuarantine_totes (t : Tag) (b : Option Band) : (s.raiseQuarantine t b).totes = s.totes := by unfold State.raiseQuarantine; split <;> rfl
@[simp] theorem State.raiseQuarantine_outbound (t : Tag) (b : Option Band) : (s.raiseQuarantine t b).outbound = s.outbound := by unfold State.raiseQuarantine; split <;> rfl
@[simp] theorem State.raiseQuarantine_calendar (t : Tag) (b : Option Band) : (s.raiseQuarantine t b).calendar = s.calendar := by unfold State.raiseQuarantine; split <;> rfl
@[simp] theorem State.raiseQuarantine_errors (t : Tag) (b : Option Band) : (s.raiseQuarantine t b).errors = s.errors := by unfold State.raiseQuarantine; split <;> rfl
@[simp] theorem State.raiseQuarantine_mode (t : Tag) (b : Option Band) : (s.raiseQuarantine t b).mode = s.mode := by unfold State.raiseQuarantine; split <;> rfl
@[simp] theorem State.raiseQuarantine_settings (t : Tag) (b : Option Band) : (s.raiseQuarantine t b).settings = s.settings := by unfold State.raiseQuarantine; split <;> rfl
@[simp] theorem State.raiseQuarantine_lineRate (t : Tag) (b : Option Band) : (s.raiseQuarantine t b).lineRate = s.lineRate := by unfold State.raiseQuarantine; split <;> rfl
@[simp] theorem State.raiseQuarantine_freeCount (t : Tag) (b : Option Band) : (s.raiseQuarantine t b).freeCount = s.freeCount := by unfold State.raiseQuarantine; split <;> rfl
@[simp] theorem State.raiseQuarantine_pending (t : Tag) (b : Option Band) : (s.raiseQuarantine t b).pending = s.pending := by unfold State.raiseQuarantine; split <;> rfl

@[simp] theorem State.capture_cases (k : ErrorKind) (p : Port) (t : Option Tag) (o : Option ToteNo) : (s.capture k p t o).cases = s.cases := by
  unfold State.capture; dsimp only; repeat' split
  all_goals rfl
@[simp] theorem State.capture_gradingQueue (k : ErrorKind) (p : Port) (t : Option Tag) (o : Option ToteNo) : (s.capture k p t o).gradingQueue = s.gradingQueue := by
  unfold State.capture; dsimp only; repeat' split
  all_goals rfl
@[simp] theorem State.capture_engine (k : ErrorKind) (p : Port) (t : Option Tag) (o : Option ToteNo) : (s.capture k p t o).engine = s.engine := by
  unfold State.capture; dsimp only; repeat' split
  all_goals rfl
@[simp] theorem State.capture_weights (k : ErrorKind) (p : Port) (t : Option Tag) (o : Option ToteNo) : (s.capture k p t o).weights = s.weights := by
  unfold State.capture; dsimp only; repeat' split
  all_goals rfl
@[simp] theorem State.capture_categories (k : ErrorKind) (p : Port) (t : Option Tag) (o : Option ToteNo) : (s.capture k p t o).categories = s.categories := by
  unfold State.capture; dsimp only; repeat' split
  all_goals rfl
@[simp] theorem State.capture_sampler (k : ErrorKind) (p : Port) (t : Option Tag) (o : Option ToteNo) : (s.capture k p t o).sampler = s.sampler := by
  unfold State.capture; dsimp only; repeat' split
  all_goals rfl
@[simp] theorem State.capture_toteMap (k : ErrorKind) (p : Port) (t : Option Tag) (o : Option ToteNo) : (s.capture k p t o).toteMap = s.toteMap := by
  unfold State.capture; dsimp only; repeat' split
  all_goals rfl
@[simp] theorem State.capture_stopped (k : ErrorKind) (p : Port) (t : Option Tag) (o : Option ToteNo) : (s.capture k p t o).stopped = s.stopped := by
  unfold State.capture; dsimp only; repeat' split
  all_goals rfl
@[simp] theorem State.capture_totes (k : ErrorKind) (p : Port) (t : Option Tag) (o : Option ToteNo) : (s.capture k p t o).totes = s.totes := by
  unfold State.capture; dsimp only; repeat' split
  all_goals rfl
@[simp] theorem State.capture_outbound (k : ErrorKind) (p : Port) (t : Option Tag) (o : Option ToteNo) : (s.capture k p t o).outbound = s.outbound := by
  unfold State.capture; dsimp only; repeat' split
  all_goals rfl
@[simp] theorem State.capture_calendar (k : ErrorKind) (p : Port) (t : Option Tag) (o : Option ToteNo) : (s.capture k p t o).calendar = s.calendar := by
  unfold State.capture; dsimp only; repeat' split
  all_goals rfl
@[simp] theorem State.capture_mode (k : ErrorKind) (p : Port) (t : Option Tag) (o : Option ToteNo) : (s.capture k p t o).mode = s.mode := by
  unfold State.capture; dsimp only; repeat' split
  all_goals rfl
@[simp] theorem State.capture_settings (k : ErrorKind) (p : Port) (t : Option Tag) (o : Option ToteNo) : (s.capture k p t o).settings = s.settings := by
  unfold State.capture; dsimp only; repeat' split
  all_goals rfl
@[simp] theorem State.capture_lineRate (k : ErrorKind) (p : Port) (t : Option Tag) (o : Option ToteNo) : (s.capture k p t o).lineRate = s.lineRate := by
  unfold State.capture; dsimp only; repeat' split
  all_goals rfl
@[simp] theorem State.capture_freeCount (k : ErrorKind) (p : Port) (t : Option Tag) (o : Option ToteNo) : (s.capture k p t o).freeCount = s.freeCount := by
  unfold State.capture; dsimp only; repeat' split
  all_goals rfl
@[simp] theorem State.capture_pending (k : ErrorKind) (p : Port) (t : Option Tag) (o : Option ToteNo) : (s.capture k p t o).pending = s.pending := by
  unfold State.capture; dsimp only; repeat' split
  all_goals rfl

@[simp] theorem State.setCase_gradingQueue (t : Tag) (c : Case) : (s.setCase t c).gradingQueue = s.gradingQueue := rfl
@[simp] theorem State.setCase_engine (t : Tag) (c : Case) : (s.setCase t c).engine = s.engine := rfl
@[simp] theorem State.setCase_weights (t : Tag) (c : Case) : (s.setCase t c).weights = s.weights := rfl
@[simp] theorem State.setCase_categories (t : Tag) (c : Case) : (s.setCase t c).categories = s.categories := rfl
@[simp] theorem State.setCase_sampler (t : Tag) (c : Case) : (s.setCase t c).sampler = s.sampler := rfl
@[simp] theorem State.setCase_toteMap (t : Tag) (c : Case) : (s.setCase t c).toteMap = s.toteMap := rfl
@[simp] theorem State.setCase_stopped (t : Tag) (c : Case) : (s.setCase t c).stopped = s.stopped := rfl
@[simp] theorem State.setCase_totes (t : Tag) (c : Case) : (s.setCase t c).totes = s.totes := rfl
@[simp] theorem State.setCase_outbound (t : Tag) (c : Case) : (s.setCase t c).outbound = s.outbound := rfl
@[simp] theorem State.setCase_calendar (t : Tag) (c : Case) : (s.setCase t c).calendar = s.calendar := rfl
@[simp] theorem State.setCase_ports (t : Tag) (c : Case) : (s.setCase t c).ports = s.ports := rfl
@[simp] theorem State.setCase_errors (t : Tag) (c : Case) : (s.setCase t c).errors = s.errors := rfl
@[simp] theorem State.setCase_mode (t : Tag) (c : Case) : (s.setCase t c).mode = s.mode := rfl
@[simp] theorem State.setCase_settings (t : Tag) (c : Case) : (s.setCase t c).settings = s.settings := rfl
@[simp] theorem State.setCase_lineRate (t : Tag) (c : Case) : (s.setCase t c).lineRate = s.lineRate := rfl
@[simp] theorem State.setCase_freeCount (t : Tag) (c : Case) : (s.setCase t c).freeCount = s.freeCount := rfl
@[simp] theorem State.setCase_pending (t : Tag) (c : Case) : (s.setCase t c).pending = s.pending := rfl

@[simp] theorem State.setTote_cases (t : ToteNo) (k : Tote) : (s.setTote t k).cases = s.cases := rfl
@[simp] theorem State.setTote_gradingQueue (t : ToteNo) (k : Tote) : (s.setTote t k).gradingQueue = s.gradingQueue := rfl
@[simp] theorem State.setTote_engine (t : ToteNo) (k : Tote) : (s.setTote t k).engine = s.engine := rfl
@[simp] theorem State.setTote_weights (t : ToteNo) (k : Tote) : (s.setTote t k).weights = s.weights := rfl
@[simp] theorem State.setTote_categories (t : ToteNo) (k : Tote) : (s.setTote t k).categories = s.categories := rfl
@[simp] theorem State.setTote_sampler (t : ToteNo) (k : Tote) : (s.setTote t k).sampler = s.sampler := rfl
@[simp] theorem State.setTote_toteMap (t : ToteNo) (k : Tote) : (s.setTote t k).toteMap = s.toteMap := rfl
@[simp] theorem State.setTote_stopped (t : ToteNo) (k : Tote) : (s.setTote t k).stopped = s.stopped := rfl
@[simp] theorem State.setTote_outbound (t : ToteNo) (k : Tote) : (s.setTote t k).outbound = s.outbound := rfl
@[simp] theorem State.setTote_calendar (t : ToteNo) (k : Tote) : (s.setTote t k).calendar = s.calendar := rfl
@[simp] theorem State.setTote_ports (t : ToteNo) (k : Tote) : (s.setTote t k).ports = s.ports := rfl
@[simp] theorem State.setTote_errors (t : ToteNo) (k : Tote) : (s.setTote t k).errors = s.errors := rfl
@[simp] theorem State.setTote_mode (t : ToteNo) (k : Tote) : (s.setTote t k).mode = s.mode := rfl
@[simp] theorem State.setTote_settings (t : ToteNo) (k : Tote) : (s.setTote t k).settings = s.settings := rfl
@[simp] theorem State.setTote_lineRate (t : ToteNo) (k : Tote) : (s.setTote t k).lineRate = s.lineRate := rfl
@[simp] theorem State.setTote_freeCount (t : ToteNo) (k : Tote) : (s.setTote t k).freeCount = s.freeCount := rfl
@[simp] theorem State.setTote_pending (t : ToteNo) (k : Tote) : (s.setTote t k).pending = s.pending := rfl

theorem State.port_of_ports {s t : State} (h : t.ports = s.ports) (p : Port) : t.port p = s.port p := by
  simp only [State.port, h]

@[simp] theorem State.port_setCase (t : Tag) (c : Case) (p : Port) : (s.setCase t c).port p = s.port p := rfl
@[simp] theorem State.port_setTote (t : ToteNo) (k : Tote) (p : Port) : (s.setTote t k).port p = s.port p := rfl
@[simp] theorem State.case?_setTote (t : ToteNo) (k : Tote) (u : Tag) : (s.setTote t k).case? u = s.case? u := rfl
@[simp] theorem State.tote_setCase (t : Tag) (c : Case) (u : ToteNo) : (s.setCase t c).tote u = s.tote u := rfl
@[simp] theorem State.case?_raise (w : Port → PortState → Bool) (c : Cause) (d : Detail) (u : Tag) :
    (s.raise w c d).case? u = s.case? u := rfl
@[simp] theorem State.tote_raise (w : Port → PortState → Bool) (c : Cause) (d : Detail) (u : ToteNo) :
    (s.raise w c d).tote u = s.tote u := rfl

/-- R154, unlocked: the record is filled and locked, the kind joins the summary, and ERROR_CAPTURED reaches every STOCK port. -/
theorem State.capture_unlocked (h : s.errors.locked = false) (k : ErrorKind) (p : Port) (t : Option Tag) (o : Option ToteNo) :
    s.capture k p t o = (s.withErrors
      { s.errors with
          record := some { kind := k, port := p, tag := t, tote := o, second := s.secondCount },
          locked := true, summary := s.errors.summary.insert k }).raise toStock .errorCaptured (.error k) := by
  simp [State.capture, h]

/-- R154, locked: the record stays, the kind joins the summary, MULTIPLE is set. -/
theorem State.capture_locked (h : s.errors.locked = true) (k : ErrorKind) (p : Port) (t : Option Tag) (o : Option ToteNo) :
    (s.capture k p t o).errors = { s.errors with summary := s.errors.summary.insert k, multiple := true } := by
  simp only [State.capture, h, if_true]
  split <;> rfl

/-- A port as a capture leaves it: raised to, or unchanged. -/
theorem State.port_capture (k : ErrorKind) (p : Port) (t : Option Tag) (o : Option ToteNo) (q : Port) :
    (s.capture k p t o).port q =
      if (s.port q).role = .stock ∧ (s.errors.locked = false ∨ s.settings.everyError = true) then
        (s.port q).raised .errorCaptured (.error k)
      else s.port q := by
  unfold State.capture
  by_cases hl : s.errors.locked = true <;> by_cases he : s.settings.everyError = true <;>
    by_cases hr : (s.port q).role = .stock <;>
    simp [hl, he, hr, toStock]

end Sys2Proof.Machine
end

