-- ==== Sys2Proof/Laws/Ops.lean ====
section
/-! SUPPORT. One lemma for each shared operation, saying once what it does: the arrival of a request, departures and drains, removals
from a manifest, the ends of holds and reservations. -/

namespace Sys2Proof.Machine

variable {s : State} {p : Port} {num : Byte} {r : Request}

/-! Arrival of a request -/

/-- The state in which a request that a listening port takes at once is checked: its assembler idle, the request in service. -/
def State.serving (s : State) (p : Port) (num : Byte) (r : Request) : State :=
  s.updPort p fun x => { x with assembler := .idle, service := some { num := num, request := r, reply := none } }

theorem State.listens.hears {role : Role} (h : s.listens p role) : (s.port p).deaf = false := by
  obtain ⟨hr, ho, hb, _⟩ := h
  simp [PortState.deaf, hb, hr, ho]

theorem State.port_serving_self : (s.serving p num r).port p =
    { s.port p with assembler := .idle, service := some { num := num, request := r, reply := none } } := by
  simp [State.serving]

theorem State.role_serving (q : Port) : ((s.serving p num r).port q).role = (s.port q).role := by
  simp only [State.serving, State.port_updPort]; split <;> rfl

theorem State.serving_eq :
    s.serving p num r =
      (s.updPort p fun x => { x with assembler := .idle }).updPort p fun x =>
        { x with service := some { num := num, request := r, reply := none } } := by
  simp only [State.serving, State.updPort, State.updPorts_updPorts]
  apply State.updPorts_congr
  intro q
  split <;> rfl

/-- A listening port takes a request that a frame can carry at once, and its reply is what `answerRequest` gives. -/
theorem State.arrive_listening {role : Role} (h : s.listens p role) (hl : r.len ≤ Config.maxLen) :
    s.arrive p num r = match answerRequest p r (s.serving p num r) with
      | (t, some a) => t.setReply p num r a
      | (t, none) => t := by
  have hs := h.2.2.2
  simp only [State.arrive, h.hears, Nat.not_lt.mpr hl, State.acceptFrame, State.port_updPort, hs, if_false,
    if_true, Bool.false_eq_true]
  rw [State.serving_eq]
  rfl

/-- A refusal has the status refused with. -/
@[simp] theorem refusalAnswer_status (st : Status) : (refusalAnswer r st).status = st := by
  unfold refusalAnswer; split <;> rfl

/-- Every reply of R103's table carries the tag, NOT_LIVE too. -/
@[simp] theorem refusalAnswer_routeQuery_notLive (tag : Tag) :
    refusalAnswer (.routeQuery tag) .notLive = { status := .notLive, data := .tagAlone tag } := rfl

/-- A refusal other than NOT_LIVE carries only its status (R165). -/
theorem refusalAnswer_of_ne_notLive {st : Status} (h : st ≠ .notLive) : refusalAnswer r st = .bare st := by
  unfold refusalAnswer; split
  · exact absurd rfl h
  · rfl

/-- A refusal of a request other than Route Query carries only its status (R165). -/
theorem refusalAnswer_of_ne_routeQuery {st : Status} (h : ∀ tag, r ≠ .routeQuery tag) : refusalAnswer r st = .bare st := by
  unfold refusalAnswer; split
  · exact absurd rfl (h _)
  · rfl

/-- A request that the checks of R165 or mode control refuse is answered as `refusalAnswer` says, and nothing else happens. -/
theorem State.arrive_refused {role : Role} (h : s.listens p role) (hl : r.len ≤ Config.maxLen) {st : Status}
    (hc : portCheck role s.mode r = some st) :
    s.arrive p num r = (s.serving p num r).setReply p num r (refusalAnswer r st) := by
  have hr : ((s.serving p num r).port p).role = role := by rw [State.role_serving]; exact h.1
  have hm : (s.serving p num r).mode = s.mode := rfl
  rw [State.arrive_listening h hl]
  simp only [answerRequest, hr, hm, hc]

/-- A request that passes the checks reaches the block that owns its state. -/
theorem State.arrive_taken {role : Role} (h : s.listens p role) (hl : r.len ≤ Config.maxLen)
    (hc : portCheck role s.mode r = none) :
    s.arrive p num r = match takeRequest p r (s.serving p num r) with
      | (t, some a) => t.setReply p num r a
      | (t, none) => t := by
  have hr : ((s.serving p num r).port p).role = role := by rw [State.role_serving]; exact h.1
  have hm : (s.serving p num r).mode = s.mode := rfl
  rw [State.arrive_listening h hl]
  simp only [answerRequest, hr, hm, hc]

/-- A port that takes nothing in leaves a request without effect. -/
theorem State.arrive_deaf (h : (s.port p).deaf = true) : s.arrive p num r = s := by
  simp [State.arrive, h]

@[simp] theorem State.port_setReply_self (a : Answer) :
    (s.setReply p num r a).port p =
      { s.port p with
        service := some { num := num, request := r,
                          reply := some { kind := r.kind, num := num, status := a.status, data := a.data } } } := by
  simp [State.setReply]

theorem State.port_setReply_other (a : Answer) {q : Port} (h : q ≠ p) : (s.setReply p num r a).port q = s.port q := by
  simp [State.setReply, h]

theorem State.port_serving_other {q : Port} (h : q ≠ p) : (s.serving p num r).port q = s.port q := by
  simp [State.serving, h]

/-- The reply a listening port's request gets leaves every other port, and of its own port all but assembler and service slot. -/
theorem State.answered_of_setReply (a : Answer) :
    (∀ q, q ≠ p → ((s.serving p num r).setReply p num r a).port q = s.port q) ∧
      ((s.serving p num r).setReply p num r a).port p = { s.port p with
        assembler := .idle,
        service := some { num := num, request := r,
                          reply := some { kind := r.kind, num := num, status := a.status, data := a.data } } } := by
  constructor
  · intro q hq
    rw [State.port_setReply_other a hq, State.port_serving_other hq]
  · rw [State.port_setReply_self, State.port_serving_self]

/-- The reply to a request taken at once, on a state whose ports the taking did not change. -/
theorem State.answered_setReply {u : State} (hu : ∀ q, u.port q = (s.serving p num r).port q) (a : Answer) :
    s.answered (u.setReply p num r a) p num r a.status a.data := by
  refine ⟨⟨fun q hq => ?_, ?_⟩, ?_⟩
  · rw [State.port_setReply_other a hq, hu, State.port_serving_other hq]
  · rw [State.port_setReply_self, hu, State.port_serving_self]
  · rw [State.replied, State.port_setReply_self]

/-- A refusal by the owning block, or an answer that changes nothing, changes nothing but its port's slot. -/
theorem State.onlyAnswered_setReply (a : Answer) :
    s.onlyAnswered ((s.serving p num r).setReply p num r a) p num r a.status a.data :=
  ⟨rfl, State.answered_setReply (fun _ => rfl) a⟩

/-! Cases -/

/-- What holds of every listed case record holds of every case. -/
theorem State.forall_case {P : Case → Prop} (h : ∀ e ∈ s.cases.entries, P e.2) (t : Tag) (c : Case) (hc : s.case? t = some c) :
    P c := by
  obtain ⟨e, he, rfl⟩ := mem_of_findIn (k := t.toNat) (l := s.cases.entries) hc
  exact h e he

@[simp] theorem State.case?_withCases (m : Store Case) (t : Tag) : (s.withCases m).case? t = m.find? t.toNat := rfl

theorem State.case?_erase (t u : Tag) :
    (s.withCases (s.cases.erase t.toNat)).case? u = if u = t then none else s.case? u := by
  rw [State.case?_withCases, Store.find?_erase]
  simp only [BitVec.toNat_inj, State.case?]

@[simp] theorem State.sweepGoesOn_cases (set : List Tag) : (s.sweepGoesOn set).cases = s.cases := by
  unfold State.sweepGoesOn; split <;> rfl

@[simp] theorem State.sweepGoesOn_totes (set : List Tag) : (s.sweepGoesOn set).totes = s.totes := by
  unfold State.sweepGoesOn; split <;> rfl

@[simp] theorem State.leaveSweep_cases (t : Tag) : (s.leaveSweep t).cases = s.cases := by
  unfold State.leaveSweep
  split
  · rfl
  · split <;> simp

@[simp] theorem State.leaveSweep_totes (t : Tag) : (s.leaveSweep t).totes = s.totes := by
  unfold State.leaveSweep
  split
  · rfl
  · split <;> simp

theorem State.case?_removeCase (t u : Tag) : (s.removeCase t).case? u = if u = t then none else s.case? u := by
  simp only [State.removeCase, State.case?, State.leaveSweep_cases, State.withCases_cases, Store.find?_erase, BitVec.toNat_inj]

/-- Marking the cases of some tags departed changes their locations and nothing else. -/
theorem find?_markDeparted (tags : List Tag) (m : Store Case) (u : Tag) :
    (markDeparted tags m).find? u.toNat =
      if u ∈ tags then (m.find? u.toNat).map fun c => { c with location := .departed } else m.find? u.toNat := by
  induction tags generalizing m with
  | nil => simp [markDeparted]
  | cons t rest ih =>
    have step : markDeparted (t :: rest) m = markDeparted rest (match m.find? t.toNat with
      | some c => m.insert t.toNat { c with location := .departed }
      | none => m) := rfl
    rw [step, ih]
    by_cases hu : u = t
    · subst hu
      cases hm : m.find? u.toNat with
      | none => simp [hm]
      | some c => by_cases hr : u ∈ rest <;> simp [hr]
    · have hn : ¬ u.toNat = t.toNat := fun h => hu (BitVec.toNat_inj.mp h)
      cases hm : m.find? t.toNat with
      | none => simp [hu]
      | some c => simp [hu, Store.find?_insert, hn]

/-! Departures and drains -/

theorem State.tote_raiseSwapDone (t u : ToteNo) : (s.raiseSwapDone t).tote u = s.tote u := rfl

theorem State.tote_depart (t u : ToteNo) : (s.depart t).tote u = if u = t then (s.tote t).emptied else s.tote u := by
  simp only [State.depart, State.tote_raiseSwapDone, State.tote_setTote]
  rfl

theorem State.case?_depart (t : ToteNo) (u : Tag) :
    (s.depart t).case? u = if u ∈ (s.tote t).manifest then (s.case? u).map fun c => { c with location := .departed }
      else s.case? u := by
  simp only [State.case?, State.depart, State.raiseSwapDone_cases, State.setTote_cases, State.withCases_cases,
    State.withOutbound_cases, find?_markDeparted]

theorem State.outbound_depart (t : ToteNo) :
    (s.depart t).outbound = s.outbound ++ [{ tote := t, second := s.secondCount, tags := (s.tote t).manifest }] := rfl

/-- R132: what the completion of a drain is in each of its three ways. -/
theorem State.completeDrain_cases (t : ToteNo) :
    ((s.tote t).filled = 0 ∧ s.completeDrain t = (s.setTote t { s.tote t with state := .opened }).raiseSwapDone t) ∨
    ((s.tote t).filled ≠ 0 ∧ s.outbound.length < Config.maxRecords ∧ s.completeDrain t = s.depart t) ∨
    ((s.tote t).filled ≠ 0 ∧ ¬ s.outbound.length < Config.maxRecords ∧ s.completeDrain t = s) := by
  unfold State.completeDrain
  by_cases h0 : (s.tote t).filled = 0 <;> by_cases h1 : s.outbound.length < Config.maxRecords <;> simp [h0, h1]

theorem State.drainIfDone_waits {t : ToteNo} (h : ¬ ((s.tote t).state = .draining ∧ (s.tote t).reserved = 0)) :
    s.drainIfDone t = s := by
  simp only [State.drainIfDone, h, if_false]

theorem State.drainIfDone_done {t : ToteNo} (h : (s.tote t).state = .draining ∧ (s.tote t).reserved = 0) :
    s.drainIfDone t = s.completeDrain t := by
  simp only [State.drainIfDone, h, and_self, if_true]

/-! Ends of holds and reservations -/

/-- R34: what the end of a hold without submission or lapse does to the case. -/
theorem State.case?_releaseHold (t u : Tag) :
    (s.releaseHold t).case? u = if u = t then (s.case? t).map Case.returned else s.case? u := by
  unfold State.releaseHold
  cases h : s.case? t with
  | none => by_cases hu : u = t <;> simp [hu, h]
  | some c =>
    have : ∀ x : State, ∀ b v, (x.announceReturn t b).case? v = x.case? v := fun x b v => by
      simp only [State.case?, State.announceReturn_cases]
    by_cases hu : u = t <;> simp [this, hu]

theorem State.releaseHold_totes (t : Tag) : (s.releaseHold t).totes = s.totes := by
  unfold State.releaseHold; split <;> simp

/-- A case with no hold that is due is left as it is by a hold lapse. -/
theorem State.takeHoldLapse_not_due {t : Tag} (h : ∀ c k, s.case? t = some c → c.holder = some k → k.due = false) :
    s.takeHoldLapse t = s := by
  unfold State.takeHoldLapse
  cases hc : s.case? t with
  | none => rfl
  | some c =>
    cases hk : c.holder with
    | none => simp [hk]
    | some k => simp [hk, h c k hc hk]

/-- A case with no reservation that is due, or a stopped line, leaves a dwell lapse without effect. -/
theorem State.takeDwellLapse_not_due {t : Tag}
    (h : ∀ c r, s.case? t = some c → c.reservation = some r → r.due = false ∨ s.stopped = true) :
    s.takeDwellLapse t = s := by
  unfold State.takeDwellLapse
  cases hc : s.case? t with
  | none => rfl
  | some c =>
    cases hr : c.reservation with
    | none => simp [hr]
    | some r => rcases h c r hc hr with hd | hs <;> simp [*]

/-! A request from its arrival to its reply, and the removal of a tag from its tote -/

/-- A request that passes every check of R165 and R168. -/
theorem portCheck_passes {role mode} {r : Request} (h1 : knownKind r.kind = true) (h2 : roleAllows role r.kind = true) (h3 : r.lengthFits = true)
  (h4 : needsLive r.kind = false ∨ mode = .live) : portCheck role mode r = none := by
  unfold portCheck
  rcases h4 with h4 | h4 <;> simp [h1, h2, h3, h4]

/-- A request taken at once: exec answers the block's state with the reply set. -/
theorem went_arrive_answered {s : State} {p : Port} {num : Byte} {r : Request} {role : Role} (h : s.listens p role) (hl : r.len ≤ 160)
  (h1 : knownKind r.kind = true) (h2 : roleAllows role r.kind = true) (h3 : r.lengthFits = true)
  (h4 : needsLive r.kind = false ∨ s.mode = .live) {t : State} {a : Answer} (ht : takeRequest p r (s.serving p num r) = (t, some a)) :
  went (s.arrive p num r) = .next (t.setReply p num r a) := by
  unfold went
  rw [State.arrive_taken h hl (portCheck_passes h1 h2 h3 h4), ht]

/-- A request taken at once without an answer yet. -/
theorem went_arrive_unanswered {s : State} {p : Port} {num : Byte} {r : Request} {role : Role} (h : s.listens p role) (hl : r.len ≤ 160)
  (h1 : knownKind r.kind = true) (h2 : roleAllows role r.kind = true) (h3 : r.lengthFits = true)
  (h4 : needsLive r.kind = false ∨ s.mode = .live) {t : State} (ht : takeRequest p r (s.serving p num r) = (t, none)) :
  went (s.arrive p num r) = .next t := by
  unfold went
  rw [State.arrive_taken h hl (portCheck_passes h1 h2 h3 h4), ht]

/-- A request taken at once that changes nothing but its slot. -/
theorem went_arrive_onlyAnswered {s : State} {p : Port} {num : Byte} {r : Request} {role : Role} (h : s.listens p role) (hl : r.len ≤ 160)
  (h1 : knownKind r.kind = true) (h2 : roleAllows role r.kind = true) (h3 : r.lengthFits = true)
  (h4 : needsLive r.kind = false ∨ s.mode = .live) {st : Status} {d : ReplyData} (ht : takeRequest p r (s.serving p num r) = (s.serving p num r, some ⟨st, d⟩)) :
  ∃ t, went (s.arrive p num r) = .next t ∧ s.onlyAnswered t p num r st d :=
  ⟨_, went_arrive_answered h hl h1 h2 h3 h4 ht, State.onlyAnswered_setReply ⟨st, d⟩⟩

theorem State.notice?_serving (s : State) (p : Port) (num : Byte) (r : Request) (q : Port) (e : Cause) :
  ((s.serving p num r).port q).notice? e = (s.port q).notice? e := by
  simp only [State.serving, State.port_updPort]; split <;> rfl
theorem State.notice?_setReply (s : State) (p : Port) (num : Byte) (r : Request) (a) (q : Port) (e : Cause) :
  ((s.setReply p num r a).port q).notice? e = (s.port q).notice? e := by
  simp only [State.setReply, State.port_updPort]; split <;> rfl

theorem State.sameLinesBut_setReply (s : State) (p : Port) (num : Byte) (r : Request) (u : State) (a : Answer)
  (hu : ∀ q, ((u.port q).role = ((s.serving p num r).port q).role ∧ (u.port q).waiting = ((s.serving p num r).port q).waiting ∧ (u.port q).line = ((s.serving p num r).port q).line ∧
    (u.port q).enabled = ((s.serving p num r).port q).enabled ∧ (u.port q).inBreak = ((s.serving p num r).port q).inBreak) ∧
   (u.port q).service = ((s.serving p num r).port q).service ∧ (u.port q).assembler = ((s.serving p num r).port q).assembler) :
  s.sameLinesBut (u.setReply p num r a) p := by
  constructor
  · intro q
    have := hu q
    by_cases hq : q = p
    · subst hq; rw [State.port_setReply_self]; rw [State.port_serving_self] at this; exact this.1
    · rw [State.port_setReply_other _ hq]; rw [State.port_serving_other hq] at this; exact this.1
  · intro q hq
    have := hu q
    rw [State.port_setReply_other _ hq]; rw [State.port_serving_other hq] at this; exact this.2

/-- The removal of a tag from a manifest looks at the totes alone. -/
theorem State.leaveTote_totes_congr (s u : State) (loc tag) (h : u.totes = s.totes) : (u.leaveTote loc tag).totes = (s.leaveTote loc tag).totes := by
  have ht : ∀ v, u.tote v = s.tote v := fun v => State.tote_of_totes h v
  unfold State.leaveTote
  cases loc with
  | none => exact h
  | departed => exact h
  | inTote t =>
    simp only [State.removeFromManifest, ht]
    split <;> simp [State.setTote, h]

theorem State.leaveTote_eq (s : State) (loc tag) : s.leaveTote loc tag = (s.withTotes (s.leaveTote loc tag).totes).withPorts (s.leaveTote loc tag).ports := by
  unfold State.leaveTote
  cases loc with
  | none => rfl
  | departed => rfl
  | inTote t =>
    simp only [State.removeFromManifest]
    split <;> rfl

theorem State.port_leaveTote (s : State) (loc tag q) : ((s.leaveTote loc tag).port q) = s.port q ∨ ∃ t, (s.leaveTote loc tag).port q = (s.port q).raised .swapDone (.tote t) := by
  unfold State.leaveTote
  cases loc with
  | none => left; rfl
  | departed => left; rfl
  | inTote t =>
    simp only [State.removeFromManifest]
    split
    · simp only [State.raiseSwapDone, State.port_raise]
      split
      · right; exact ⟨_, rfl⟩
      · left; rfl
    · left; rfl

theorem State.case?_leaveTote (s : State) (loc tag u) : (s.leaveTote loc tag).case? u = s.case? u := by
  rw [State.leaveTote_eq]; rfl

theorem Case.auditUnresolved_iff (c : Case) : c.auditUnresolved = true ↔ c.awaitsAudit := by
  unfold Case.auditUnresolved Case.awaitsAudit
  cases h : c.audit with
  | none => simp
  | some a => simp

end Sys2Proof.Machine
end

