-- ==== Sys2Proof/Tests/Slice0.lean ====
section
/-! SUPPORT. Tests against the guide's worked figures and rules, ill-formed commands refused, and for each statement with hypotheses a
witness that meets them. Expected values are the guide's, or worked by hand from the rule that the name or comment gives. -/

namespace Sys2Proof.Tests

open Sys2Proof.Machine

set_option Elab.async false

/-! Helpers -/

/-- The state after a command. No command here stops, so the last arm is never met. -/
def after (s : State) (c : Instr) : State :=
  match exec c s with
  | .next t => t
  | _ => s

def ran (s : State) (l : List Instr) : State := l.foldl after s

/-- Requests of one port, each with its reply sent. -/
def served (p : Port) (s : State) (l : List Instr) : State := ran s (l.flatMap fun c => [c, .replySent p])

/-- Status and data of the reply ready at a port. -/
def told (s : State) (p : Port) : Option (Status × ReplyData) := (s.replyAt p).map fun r => (r.status, r.data)

def status (s : State) (p : Port) : Option Status := (s.replyAt p).map (·.status)

/-- The statuses of several requests, each sent alone to the same state. -/
def statuses (s : State) (p : Port) (l : List Instr) : List (Option Status) := l.map fun c => status (after s c) p

def seconds (n : Nat) : List Instr := List.replicate n .secondEvent

def seen : Attributes := { size := 1, colour := 2, label := 3, material := 4, fitted := true }

def ann (tag : Tag) (category : Byte) : Announcement :=
  { tag := tag, category := category, sku := 7, size := 1, colour := 2, label := 3, material := 4, fitted := true, delivery := 0 }

def caseAt (s : State) (t : Tag) : Case := (s.case? t).getD (.opened (ann t 0) 0)

def noMask : AttrSet := { size := false, colour := false, label := false, material := false, fitted := false }

def record (rate : BitVec 16) (mask : AttrSet) : CategoryWrite :=
  { step := 0, tA := 900, tB := 700, tC := 400, window := 0, rate := rate, tolerance := 50, mask := mask, wearLimit := 0 }

/-- A LIVE floor: P1 audit-capable, category 3 with every item selected and its size compared, T8 of capacity 2 linked to T10 for
RESTOCK and T9 of capacity 1 for AUDIT, and two announced items: tag 1 of category 0, tag 2 of category 3. -/
def floor : State := served 7 State.reset
  [.writeSettings 7 0 { holdLimit := 600, dwellLimit := 90, expectLimit := 30, everyError := false, auditCapable := 2 },
   .writeCategory 7 0 3 (record 4096 { noMask with size := true }),
   .writeTote 7 0 { tote := 8, state := 1, capacity := 2, link := some 10 },
   .writeTote 7 0 { tote := 9, state := 1, capacity := 1, link := none },
   .writeToteMap 7 0 [{ cls := 0, category := 0, valid := true, tote := 8 }, { cls := 0, category := 3, valid := true, tote := 8 },
                      { cls := 5, category := 3, valid := true, tote := 9 }],
   .expectReturn 7 0 (ann 1 0), .expectReturn 7 0 (ann 2 3), .goLive 7 0]

/-- Tag 1 through its first grade into T8. -/
def held : State := served 0 floor [.claimCase 0 0 1]
def grading : State := after held (.submitGrade 0 0 1 seen [])
def graded : State := ran grading [.firstGradeCompletion, .replySent 0]
def routed : State := served 6 graded [.routeQuery 6 0 1]
def placed : State := served 6 routed [.confirmPlacement 6 0 1 8]

/-- Tag 2, selected for audit, through the audit tote T9 to the auditor at P1. -/
def awaiting : State := ran floor [.claimCase 0 0 2, .replySent 0, .submitGrade 0 0 2 seen [], .firstGradeCompletion, .replySent 0]
def parked : State := served 6 awaiting [.routeQuery 6 0 2, .confirmPlacement 6 0 2 9]
def auditHeld : State := served 1 parked [.claimCase 1 0 2]
def auditing : State := after auditHeld (.submitGrade 1 0 2 seen [])

/-- Tag 2 with a mismatch in size: band Q. -/
def quarantined : State := ran floor
  [.claimCase 0 0 2, .replySent 0, .submitGrade 0 0 2 { seen with size := 2 } [], .firstGradeCompletion, .replySent 0]

/-- A tote in a given state with a manifest and a reserved count, on the reset floor. -/
def withTote (st : ToteState) (capacity reserved : Nat) (tags : List Tag) (link : Option ToteNo := none) : Tote :=
  { state := st, capacity := capacity, filled := tags.length, reserved := reserved, link := link, manifest := tags }

/-! Ill-formed commands are refused, and the longest well-formed ones are not -/

theorem test_wellFormed_weights :
    [52, 53].map (fun n => (Instr.writeWeights 0 0 0 0 (List.replicate n { weight := 0, wear := false })).wellFormed) =
      [true, false] := by decide +kernel

theorem test_wellFormed_map :
    [39, 40].map (fun n => (Instr.writeToteMap 0 0 (List.replicate n { cls := 0, category := 0, valid := true, tote := 0 })).wellFormed)
      = [true, false] := by decide +kernel

theorem test_wellFormed_submit :
    [75, 76].map (fun n => (Instr.submitGrade 0 0 0 seen (List.replicate n { defect := 0, severity := 0 })).wellFormed) =
      [true, false] := by decide +kernel

theorem test_wellFormed_badKind :
    [0, 1, 31, 32, 255].map (fun k => (Instr.badKindRequest 0 0 k).wellFormed) = [true, false, false, true, true] := by decide

/-- A wrong SYNC, a LEN below 2, a LEN above 160, a missing character, a wrong CHK. -/
theorem test_wellFormed_frame :
    ([[0xA5, 2, 4, 0x11, 0xF5], [0x5A, 2, 4, 0x11, 0xF5], [0xA5, 1, 4, crc8 [1, 4]], 0xA5 :: 161 :: List.replicate 162 0,
      [0xA5, 2, 4, 0xF5], [0xA5, 2, 4, 0x11, 0xF4]] : List (List Byte)).map (fun l => (Instr.goodFrame 0 l).wellFormed) =
      [true, false, false, false, false, false] := by decide +kernel

/-- R159's example: a Read Clock with request number 0x11, and the reply of twelve further characters is ready at P7. -/
theorem test_frame_example : Request.frame 0x11 .readClock = [0xA5, 2, 4, 0x11, 0xF5] := by decide +kernel

/-- R158, R159, R163, R167: the frames of a reply of status TOO_LATE alone, and of NOT_LIVE with its tag. -/
theorem test_reply_frames :
    Reply.frame { kind := 25, num := 7, status := .tooLate, data := .none } = [0xA5, 3, 25, 7, 22, 0xAB] ∧
      State.reset.frameToSend 6 = none ∧
      (after State.reset (.routeQuery 6 9 0x08000041)).frameToSend 6 =
        some [0xA5, 7, 28, 9, 15, 8, 0, 0, 0x41, 0x13] := by decide +kernel

theorem test_frame_runs :
    told (after State.reset (.goodFrame 7 [0xA5, 2, 4, 0x11, 0xF5])) 7 = some (.ok, .clock 0 0 0 0 0 0 false) := by decide +kernel

theorem test_decodeTableWord : decodeTableWord 8 0xA5 = none := rfl

/-- R158: the character 0xA5 on the line, written out: start, data lowest first, four ones and so an even parity bit of 0, stop. -/
theorem test_char_bits :
    charBits 0xA5 = [false, true, false, true, false, false, true, false, true, false, true] ∧
      charBits 0x07 = [false, true, true, true, false, false, false, false, false, true, true] := by decide

/-- R158, R161: SYNC with its lowest data bit turned, with its parity bit turned, and without its stop bit. -/
theorem test_char_faults :
    let line := fun bits => ((State.reset.receiveBits 0 bits).port 0).line
    line [false, false, false, true, false, false, true, false, true, false, true] = LineStatus.clear.setParity ∧
      line [false, true, false, true, false, false, true, false, true, true, true] = LineStatus.clear.setParity ∧
      line [false, true, false, true, false, false, true, false, true, false, false] = LineStatus.clear.setFraming := by decide +kernel

/-- R159, R161: R159's frame with another CHK, a LEN of 1, a LEN of 161, and a frame after characters that are not SYNC. -/
theorem test_frame_faults :
    let line := fun chars => ((after State.reset (.goodFrame 7 chars)).port 7).line
    line [0xA5, 2, 4, 0x11, 0xF4] = LineStatus.clear.setCheck ∧ line [0xA5, 1] = LineStatus.clear.setLength ∧
      line [0xA5, 161, 0, 0] = LineStatus.clear.setLength ∧
      status (after State.reset (.goodFrame 7 [0, 0x5A, 0xA5, 2, 4, 0x11, 0xF5])) 7 = some .ok := by decide +kernel

/-- R68, R160: the grade record of a Submit Grade reply: grader 3; D 364, V 0, S 977; band A; no mismatch; CLAMPED and LATE. -/
theorem test_grade_chars :
    GradeRecord.chars { grader := 3, deduction := 364, wear := 0, score := 977, band := .a, mismatch := AttrSet.ofChar 0,
                        ceilingFlag := false, floorFlag := false, clampedFlag := true, wearFlag := false, lateFlag := true } =
      [3, 1, 0x6C, 0, 0, 3, 0xD1, 0, 0, 0x14] := by decide

/-! The guide's worked figures -/

def knit : CategoryRecord :=
  { step := .minusOne, tA := 950, tB := 800, tC := 500, window := 30, rate := 1229, tolerance := 50,
    mask := { size := true, colour := true, label := false, material := false, fitted := true }, wearLimit := 0 }

def computing (r : CategoryRecord) (weights : List (Nat × WeightEntry)) (obs : List Observation) : Computation :=
  { submission := { tag := 1, grader := 3, kind := .first, observed := seen, observations := obs }, category := 3,
    declared := seen, record := r, weights := ⟨weights⟩ }

/-- 3.4, a knitwear item: D 364, S 977, band A. -/
theorem test_grade_knitwear :
    let g := (computing knit [(5, ⟨40, false⟩), (12, ⟨96, false⟩), (20, ⟨200, false⟩)] [⟨12, 3⟩, ⟨20, 2⟩, ⟨5, 1⟩]).grade false
    (g.deduction, g.score, g.band, g.floorFlag) = (364, 977, .a, false) := by decide +kernel

/-- 3.4, the limits: D 65535, S 0, band D, with CEILING, FLOOR and CLAMPED. -/
theorem test_grade_limits :
    let g := (computing { CategoryRecord.neutral with step := .plusOne } [(1, ⟨4095, false⟩), (2, ⟨4095, false⟩)]
      [⟨1, 7⟩, ⟨2, 12⟩]).grade false
    (g.deduction, g.score, g.band, g.ceilingFlag, g.floorFlag, g.clampedFlag) = (65535, 0, .d, true, true, true) := by decide +kernel

/-- 3.5, a worn pair of jeans: D 760, V 560, S 952, band Q. -/
theorem test_grade_jeans :
    let g := (computing { CategoryRecord.neutral with wearLimit := 480 } [(20, ⟨200, false⟩), (30, ⟨160, true⟩), (31, ⟨80, true⟩)]
      [⟨30, 2⟩, ⟨20, 1⟩, ⟨31, 3⟩, ⟨31, 0⟩]).grade false
    (g.deduction, g.wear, g.score, g.band, g.wearFlag) = (760, 560, 952, .q, true) := by decide +kernel

/-- R57's table. -/
theorem test_points :
    [0, 7, 8, 23, 24, 364, 15992, 16007, 16008, 65535].map pointsOf = [0, 0, 1, 1, 2, 23, 1000, 1000, 1001, 4096] := by decide

/-- 5.2, the sampler from device reset. -/
theorem test_sampler :
    (List.range 6).map (fun n => samplerStep^[n] 0x5A3C) = [0x5A3C, 0xB479, 0x68F2, 0xD1E5, 0xA3CA, 0x4794] := by decide +kernel

/-- 5.4, outcomes around a tolerance of 20. -/
theorem test_outcomes :
    let g := fun s x => { (computing knit [] []).grade false with score := s, band := x }
    [(990, Band.a), (957, .a), (956, .a), (1000, .a), (940, .b), (983, .q)].map (fun x => outcomeOf (g 977 .a) (g x.1 x.2) 20) =
      [.agree, .agree, .dispute, .dispute, .dispute, .dispute] := by decide +kernel

/-- 6.2, the overflow walk and its variants: T11 is reached fourth; T11 FULL, T10 without a link and T9 UNUSED give HOLD. -/
def lane (t9 t10 t11 : Tote) (u : ToteNo) : Tote :=
  if u = 8 then { withTote .full 24 0 [] (some 9) with filled := 24 } else if u = 9 then t9 else if u = 10 then t10
  else if u = 11 then t11 else if u = 12 then withTote .opened 20 0 [] else .unused

theorem test_walk :
    let t9 := { withTote .draining 24 2 [] (some 10) with filled := 10 }
    let t10 := { withTote .opened 20 3 [] (some 11) with filled := 17 }
    let t11 := { withTote .opened 20 0 [] (some 12) with filled := 5 }
    walk (lane t9 t10 t11) 4 8 = some 11 ∧ walk (lane t9 t10 { t11 with state := .full, filled := 20 }) 4 8 = none ∧
      walk (lane t9 { t10 with link := none } t11) 4 8 = none ∧ walk (lane { t9 with state := .unused } t10 t11) 4 8 = none := by
  decide +kernel

/-! Requests at the boundaries of their checks -/

theorem test_expectReturn_checks :
    statuses floor 7 [.expectReturn 7 0 (ann 0 0), .expectReturn 7 0 (ann 3 15), .expectReturn 7 0 (ann 3 16),
      .expectReturn 7 0 { ann 3 0 with size := 63, material := 63 }, .expectReturn 7 0 { ann 3 0 with size := 64 },
      .expectReturn 7 0 { ann 3 0 with material := 64 }, .expectReturn 7 0 (ann 1 0)] =
      [some .badValue, some .ok, some .badValue, some .ok, some .badValue, some .badValue, some .duplicate] := by decide +kernel

theorem test_expectReturn_full :
    let cases := fun n => (List.range n).map fun k => (k + 1, Case.opened (ann 1 0) 0)
    [1023, 1024].map (fun n => status (after (State.reset.withCases ⟨cases n⟩) (.expectReturn 7 0 (ann 0xFFFFFFFF 0))) 7) =
      [some .ok, some .tableFull] := by decide +kernel

theorem test_forceDisposition_checks :
    statuses quarantined 7 [.forceDisposition 7 0 2 3 1, .forceDisposition 7 0 2 4 1, .forceDisposition 7 0 2 0 2,
      .forceDisposition 7 0 9 0 0, .forceDisposition 7 0 1 0 0] =
      [some .ok, some .badValue, some .badValue, some .unknownTag, some .wrongState] := by decide +kernel

theorem test_writeWeights_checks :
    let es := fun n (w : BitVec 16) => List.replicate n ({ weight := w, wear := false } : WeightWrite)
    statuses floor 7 [.writeWeights 7 0 15 48 (es 16 4095), .writeWeights 7 0 16 0 (es 1 0), .writeWeights 7 0 0 49 (es 16 0),
      .writeWeights 7 0 0 0 (es 1 4096), .writeWeights 7 0 0 0 [], .writeWeights 7 0 0 0 (es 17 0)] =
      [some .ok, some .badValue, some .badValue, some .badValue, some .badLength, some .badLength] := by decide +kernel

theorem test_writeCategory_checks :
    let r := record 4096 noMask
    statuses floor 7 [.writeCategory 7 0 15 { r with tA := 1000, tB := 1000, tC := 1000 }, .writeCategory 7 0 0 { r with tA := 1001 },
      .writeCategory 7 0 0 { r with step := 0xFE }, .writeCategory 7 0 0 { r with step := 0xFD }, .writeCategory 7 0 0 { r with step := 2 },
      .writeCategory 7 0 0 { r with rate := 4097 }, .writeCategory 7 0 16 r] =
      [some .ok, some .badValue, some .ok, some .badValue, some .badValue, some .clamped, some .badValue] := by decide +kernel

/-- R81: the tables of a category are in use while one of its cases is in the engine. -/
theorem test_tables_in_use :
    statuses grading 7 [.writeWeights 7 0 0 0 [{ weight := 1, wear := true }], .writeCategory 7 0 0 (record 0 noMask),
      .writeWeights 7 0 3 0 [{ weight := 1, wear := true }]] = [some .tableInUse, some .tableInUse, some .ok] := by decide +kernel

theorem test_writeTote_checks :
    let w : ToteWrite := { tote := 8, state := 1, capacity := 32, link := some 9 }
    statuses placed 7 [.writeTote 7 0 w, .writeTote 7 0 { w with capacity := 33 }, .writeTote 7 0 { w with capacity := 0 },
      .writeTote 7 0 { w with state := 2 }, .writeTote 7 0 { w with link := some 8 }, .writeTote 7 0 { w with state := 0 },
      .writeTote 7 0 { w with capacity := 1 }] =
      [some .ok, some .badValue, some .badValue, some .badValue, some .badValue, some .tableInUse, some .ok] ∧
    ((after placed (.writeTote 7 0 { w with capacity := 1 })).tote 8).state = .full := by decide +kernel

theorem test_writeToteMap_checks :
    let e : MapWrite := { cls := 5, category := 15, valid := true, tote := 255 }
    statuses floor 7 [.writeToteMap 7 0 [e], .writeToteMap 7 0 [e, { e with cls := 6 }], .writeToteMap 7 0 [{ e with category := 16 }],
      .writeToteMap 7 0 []] = [some .ok, some .badValue, some .badValue, some .badLength] ∧
    (after floor (.writeToteMap 7 0 [e, { e with tote := 1 }])).mapEntry .audit 15 = some 1 := by decide +kernel

theorem test_setClock_checks :
    let w : ClockWrite := { second := 59, minute := 59, hour := 23, weekday := 6, day := 65535 }
    statuses floor 7 [.setClock 7 0 w, .setClock 7 0 { w with second := 60 }, .setClock 7 0 { w with minute := 60 },
      .setClock 7 0 { w with hour := 24 }, .setClock 7 0 { w with weekday := 7 }] =
      [some .ok, some .badValue, some .badValue, some .badValue, some .badValue] := by decide +kernel

/-- R170: each limit is brought to the nearer end of its range, and the mark of a port that is not BENCH is dropped. -/
theorem test_writeSettings_clamps :
    told (after floor (.writeSettings 7 0 { holdLimit := 29, dwellLimit := 601, expectLimit := 0, everyError := true, auditCapable := 0xFF })) 7 =
      some (.clamped, .settings { holdLimit := 30, dwellLimit := 600, expectLimit := 1, everyError := true, auditCapable := 0x3F }) := by
  decide +kernel

/-- R165, R168: kind, then role, then length, then mode. -/
theorem test_port_checks :
    statuses State.reset 0 [.badKindRequest 0 0 0, .badKindRequest 0 0 32, .goLive 0 0,
      .submitGrade 0 0 1 seen (List.replicate 17 ⟨0, 0⟩), .submitGrade 0 0 1 seen (List.replicate 16 ⟨0, 0⟩)] =
      [some .badKind, some .badKind, some .role, some .badLength, some .notLive] := by decide +kernel

/-- R103, R165: in CONFIG a Route Query is NOT_LIVE with its tag, a Tote Swap NOT_LIVE alone; a Route Query on a BENCH port is ROLE alone. -/
theorem test_not_live_carries_tag :
    told (after State.reset (.routeQuery 6 0 0x08000041)) 6 = some (.notLive, .tagAlone 0x08000041) ∧
      told (after State.reset (.toteSwap 6 0 1)) 6 = some (.notLive, .none) ∧
      told (after State.reset (.routeQuery 0 0 0x08000041)) 0 = some (.role, .none) := by decide +kernel

/-! Requests in their course -/

theorem test_claim_and_renew :
    statuses held 0 [.claimCase 0 0 1] = [some .renewed] ∧ statuses held 1 [.claimCase 1 0 1, .releaseCase 1 0 1] =
      [some .heldElsewhere, some .notHolder] ∧ statuses held 0 [.releaseCase 0 0 1] = [some .ok] := by decide +kernel

theorem test_audit_claim_checks :
    statuses parked 0 [.claimCase 0 0 2] = [some .notAuditor] ∧
    statuses (served 7 parked [.writeSettings 7 0
      { holdLimit := 600, dwellLimit := 90, expectLimit := 30, everyError := false, auditCapable := 3 }]) 0 [.claimCase 0 0 2] =
      [some .sameGrader] ∧ statuses parked 1 [.claimCase 1 0 2] = [some .ok] := by decide +kernel

theorem test_submit_then_busy :
    (grading.engine.map (·.submission.tag), (caseAt grading 1).state, (grading.port 0).service.isSome, grading.replyAt 0) =
      (some 1, .grading, true, none) := by decide +kernel

/-- R69, 3.10: the completion of one submission starts the next. -/
theorem test_completion_starts_next :
    let s := ran floor [.claimCase 0 0 1, .claimCase 1 0 2, .replySent 0, .replySent 1, .submitGrade 0 0 1 seen [],
      .submitGrade 1 0 2 seen [], .firstGradeCompletion]
    s.engine.map (·.submission.tag) = some 2 ∧ s.gradingQueue = [] ∧ status s 0 = some .ok := by decide +kernel

theorem test_audit_agrees :
    let s := after auditing .auditGradeCompletion
    ((caseAt s 2).audit.bind (·.resolution)).map (·.outcome) = some .agree ∧ (caseAt s 2).refundGate = some .release ∧
      (caseAt auditing 2).refundGate = some .hold := by decide +kernel

/-- R17: the bench sees no verdict while the audit is unresolved; the stock computer does. -/
theorem test_blind_view :
    let view := fun s p => match told s p with
      | some (_, .caseRecord _ c) => some (c.firstGrade.isSome, c.finalBand)
      | _ => none
    view (after awaiting (.fetchCase 0 0 2)) 0 = some (false, none) ∧ view (after awaiting (.fetchCase 7 0 2)) 7 = some (true, some .a) := by
  decide +kernel

theorem test_route_answers :
    told (after graded (.routeQuery 6 0 1)) 6 = some (.ok, .route 1 (.tote 8 (some .restock) 90)) ∧
    told (after graded (.routeQuery 6 0 9)) 6 = some (.ok, .route 9 .unknownTag) ∧
    told (after floor (.routeQuery 6 0 1)) 6 = some (.ok, .route 1 (.notReady .expected)) ∧
    told (after (after graded .stopRise) (.routeQuery 6 0 1)) 6 = some (.ok, .route 1 .stopped) := by decide +kernel

theorem test_route_exception :
    let s := after quarantined (.routeQuery 6 0 2)
    told s 6 = some (.ok, .route 2 (.exception .review)) ∧
    s.errors.record = some { kind := .unmappedRoute, port := 6, tag := some 2, tote := none, second := 0 } := by decide +kernel

theorem test_placement :
    told (after routed (.confirmPlacement 6 0 1 8)) 6 = some (.ok, .placed .placed 8 1 .opened) ∧
    status (after routed (.confirmPlacement 6 0 1 9)) 6 = some .wrongTote ∧
    (after routed (.confirmPlacement 6 0 1 9)).errors.record.map (·.kind) = some .wrongTote := by decide +kernel

theorem test_audit_placement :
    (caseAt parked 2).state = .auditWait ∧ (parked.port 1).notice? .auditReady = some (.tag 2) ∧
      (parked.port 0).notice? .auditReady = none ∧ (parked.tote 9).state = .full ∧ (auditHeld.tote 9).state = .opened := by decide +kernel

theorem test_cancelRoute :
    told (after routed (.cancelRoute 6 0 1)) 6 = some (.ok, .tote 8) ∧
      ((after routed (.cancelRoute 6 0 1)).tote 8).reserved = 0 ∧ status (after placed (.cancelRoute 6 0 1)) 6 = some .wrongState := by
  decide +kernel

/-- R130, R132, R136: a swap departs at once, its record carries the second and the tags, and the stock computer takes it. -/
theorem test_swap_and_take :
    let s := served 6 placed [.toteSwap 6 0 8]
    (caseAt s 1).location = .departed ∧ (s.port 7).notice? .swapDone = some (.tote 8) ∧
      told (after s (.takeManifest 7 0)) 7 = some (.ok, .manifest { tote := 8, second := 0, tags := [1] } 0) ∧
      statuses s 7 [.closeCase 7 0 1] = [some .ok] ∧ statuses placed 7 [.closeCase 7 0 1, .takeManifest 7 0] =
        [some .wrongState, some .empty] := by decide +kernel

/-- 7.5: with 16 records in the queue the freed place goes to T5 and not to T20. -/
def crowded : State :=
  (((State.reset.withOutbound (List.replicate 16 { tote := 3, second := 0, tags := [9] })).setTote 20
    (withTote .draining 12 0 [7])).setTote 5 (withTote .draining 20 0 [8])).withMode .live

theorem test_lowest_waiting_departs :
    let s := after crowded (.takeManifest 7 0)
    (s.tote 5).state = .opened ∧ (s.tote 20).state = .draining ∧ s.outbound.length = 16 ∧
      told s 7 = some (.ok, .manifest { tote := 3, second := 0, tags := [9] } 15) := by decide +kernel

theorem test_readTote_waits :
    told (after crowded (.readTote 7 0 5)) 7 = some (.ok, .toteRead (withTote .draining 20 0 [8]) true) := by decide +kernel

theorem test_goConfig_busy :
    statuses grading 7 [.goConfig 7 0, .clearFloor 7 0] = [some .busy, some .wrongMode] ∧
      statuses graded 7 [.goConfig 7 0] = [some .ok] := by decide +kernel

theorem test_clearFloor :
    let s := served 7 placed [.goConfig 7 0]
    told (after s (.clearFloor 7 0)) 7 = some (.ok, .cleared 2 0) ∧
      (after s (.clearFloor 7 0)).tote 8 = { withTote .opened 2 0 [] (some 10) with filled := 0 } := by decide +kernel

theorem test_reseed :
    told (after floor (.reseedSampler 7 0 0x8000)) 7 = some (.ok, .sampler 0x8000) ∧
      told (after floor (.reseedSampler 7 0 0)) 7 = some (.replaced, .sampler 0x5A3C) := by decide +kernel

/-! Time, notices and lines -/

/-- R35, R36: a hold of 30 seconds lapses after the second event of second 30, and not before. -/
def shortHold : State := served 0 (served 7 floor [.writeSettings 7 0
  { holdLimit := 30, dwellLimit := 5, expectLimit := 30, everyError := false, auditCapable := 2 }]) [.claimCase 0 0 1]

theorem test_hold_lapse :
    (caseAt (ran shortHold (seconds 29 ++ [.holdLapse 1])) 1).state = .onBench ∧
    (let s := ran shortHold (seconds 30 ++ [.holdLapse 1])
     (caseAt s 1).state = .expected ∧ (caseAt s 1).lastLapsedHolder = some 0 ∧ (s.port 0).notice? .holdLapsed = some (.tag 1) ∧
       s.errors.record = some { kind := .holdLapsed, port := 0, tag := some 1, tote := none, second := 30 } ∧
       status (after s (.submitGrade 0 0 1 seen [])) 0 = some .lapsedHold) := by decide +kernel

/-- R116, R118: a dwell lapse hands the place back; STOP holds lapses off, and its fall arms the deadline again. -/
theorem test_dwell_lapse :
    let s := ran routed (seconds 90)
    (caseAt (after s (.dwellLapse 1)) 1).lastLapsedTote = some 8 ∧ ((after s (.dwellLapse 1)).tote 8).reserved = 0 ∧
      status (ran s [.dwellLapse 1, .confirmPlacement 6 0 1 8]) 6 = some .tooLate ∧
      (caseAt (ran routed (seconds 89 ++ [.stopRise, .secondEvent, .dwellLapse 1, .stopFall])) 1).reservation.map (·.deadline) =
        some 180 := by decide +kernel

/-- R142, R143: the rollover of 23:59:59, the visits, DAY_CLOSED; a case 31 days old is lapsed and one 30 days old is not. -/
def beforeSweep : State := served 7 floor
  [.setClock 7 0 { second := 0, minute := 0, hour := 0, weekday := 0, day := 1 }, .expectReturn 7 0 (ann 3 0),
   .setClock 7 0 { second := 59, minute := 59, hour := 23, weekday := 6, day := 30 }]

theorem test_sweep :
    let s := after beforeSweep .midnightRollover
    let t := ran s [.sweepVisit 1, .sweepVisit 2, .sweepVisit 3]
    s.calendar.sweep = some [1, 2, 3] ∧ (s.calendar.hour, s.calendar.weekday, s.calendar.day) = (0, 0, 31) ∧
      statuses s 7 [.setClock 7 0 { second := 0, minute := 0, hour := 0, weekday := 0, day := 1 }] = [some .busy] ∧
      (caseAt t 1).state = .lapsed ∧ (caseAt t 3).state = .expected ∧ t.calendar.sweep = none ∧
      (t.port 7).notice? .dayClosed = some (.day 31) := by decide +kernel

theorem test_revive :
    let s := ran beforeSweep [.midnightRollover, .sweepVisit 1]
    statuses s 7 [.reviveCase 7 0 1, .reviveCase 7 0 2, .cancelReturn 7 0 1] = [some .ok, some .wrongState, some .ok] ∧
      (caseAt (after s (.reviveCase 7 0 1)) 1).openedDay = 31 := by decide +kernel

theorem test_second_count_holds :
    let s := State.reset.withCalendar { Calendar.reset with secondCount := 4294967295, day := 65535, hour := 23, minute := 59, second := 59 }
    ((after s .secondEvent).calendar.secondCount, (after s .secondEvent).calendar.day) = (4294967295, 65535) := by decide +kernel

/-- R150 to R152: ATTN follows pending and enabled; Query Notice takes the cause of highest priority first. -/
theorem test_notices :
    let s := ran (after floor (.setNoticeMask 7 0 0xFFF)) [.replySent 7, .parityError 7, .stopRise]
    (s.port 7).attn = true ∧ told (after s (.queryNotice 7 0)) 7 = some (.ok, .notice (some .stopChange) (.stopLevel true) [.lineFault]) ∧
      (served 7 s [.queryNotice 7 0, .queryNotice 7 0]).port 7 = { s.port 7 with notices := .empty, attn := false } := by decide +kernel

/-- 9.5: the first record stands, the second capture sets MULTIPLE, Clear Errors returns both and clears. -/
theorem test_captures :
    let s := ran shortHold (seconds 30 ++ [.holdLapse 1, .portOverrun 3, .readClock 3 0, .readClock 3 0, .portOverrun 3])
    s.errors.record.map (·.kind) = some .holdLapsed ∧ s.errors.multiple = true ∧ s.errors.summary.has .portOverrun = true ∧
      told (after s (.readErrors 7 0)) 7 = some (.ok, .errors s.errors) ∧ (after s (.clearErrors 7 0)).errors = .clear := by decide +kernel

/-- R163, R164: the first request is served, the second waits, the third is an overrun, and a sent reply hands the second on. -/
theorem test_slots :
    let s := ran State.reset [.readClock 0 1, .readClock 0 2, .readClock 0 3]
    (s.replyAt 0).map (·.num) = some 1 ∧ (s.port 0).line.overrun = true ∧ ((after s (.replySent 0)).replyAt 0).map (·.num) = some 2 ∧
      s.errors.record = some { kind := .portOverrun, port := 0, tag := none, tote := none, second := 0 } := by decide +kernel

theorem test_line_faults :
    let s := ran State.reset [.framingError 0, .checkError 0, .lengthError 0, .gapTimeout 0 0xA5]
    told (after s (.queryLine 0 0)) 0 =
      some (.ok, .lineStatus { parity := false, framing := true, check := true, length := true, gap := true, overrun := false }) ∧
      (s.port 0).assembler = .synced ∧ (s.port 0).notice? .lineFault = some .none := by decide +kernel

/-- R41, R166: a break of the holder's port returns its case without a lapse, and the port is deaf until the line returns to mark. -/
theorem test_port_reset :
    let s := after held (.portReset 0)
    (caseAt s 1).state = .expected ∧ (caseAt s 1).lastLapsedHolder = none ∧ status (after s (.readClock 0 0)) 0 = none ∧
      status (ran s [.lineReturnToMark 0, .readClock 0 0]) 0 = some .ok := by decide +kernel

theorem test_device_reset :
    after auditing (.deviceReset 0xE555 0 false) = State.reset := by decide +kernel

/-! Witnesses: for each statement with hypotheses, a state and operands that meet all of them, clause by clause -/

theorem witness_StepRunsFrontCommand :
    (State.reset.withPending [.stopRise, .stopFall]).pending = .stopRise :: [.stopFall] ∧ State.reset.pending = [] := ⟨rfl, rfl⟩

theorem witness_PinsAndCount :
    exec .secondEvent State.reset = .next (after State.reset .secondEvent) ∧
      (∀ roles rate stop, Instr.secondEvent ≠ .deviceReset roles rate stop) ∧
      exec (.goLive 7 0) State.reset = .next (after State.reset (.goLive 7 0)) ∧
      (∀ roles rate stop, Instr.goLive 7 0 ≠ .deviceReset roles rate stop) := by
  refine ⟨rfl, ?_, rfl, ?_⟩ <;> simp

theorem witness_CaseFieldsFixedForLife :
    exec (.claimCase 0 0 1) floor = .next (after floor (.claimCase 0 0 1)) ∧ floor.case? 1 = some (caseAt floor 1) ∧
      (after floor (.claimCase 0 0 1)).case? 1 = some (caseAt (after floor (.claimCase 0 0 1)) 1) := by
  refine ⟨rfl, ?_, ?_⟩ <;> decide +kernel

theorem listens_stock : floor.listens 7 .stock := by unfold State.listens; decide +kernel
theorem listens_bench : floor.listens 0 .bench := by unfold State.listens; decide +kernel
theorem listens_induct : floor.listens 6 .induct := by unfold State.listens; decide +kernel

/-- The one hypothesis of ExpectReturnOpensCase, WriteCategoryStoresTheRecord, ReseedSamplerReplacesState, WriteToteLaysOutTote,
SetClockReplacesTheTime, FloorModesSettingsAndClearing and ForceDispositionFreesQuarantinedCase; their clauses by value are the tests
of these requests above. -/
theorem witness_listening : floor.listens 7 .stock ∧ quarantined.listens 7 .stock ∧ grading.listens 7 .stock ∧ placed.listens 7 .stock := by
  unfold State.listens; decide +kernel

theorem witness_SetClock_in_sweep :
    (after beforeSweep .midnightRollover).listens 7 .stock ∧ (after beforeSweep .midnightRollover).calendar.sweep ≠ none := by
  unfold State.listens; decide +kernel

/-- Two cases in the set, one of them to be cancelled; and a LAPSED case for Close Case and Revive Case. -/
theorem witness_CancelCloseAndReviveCases :
    let s := after beforeSweep .midnightRollover
    (s.listens 7 .stock ∧ ∀ set, s.calendar.sweep = some set → (1 : Tag) ∈ set → ∃ u ∈ set, u ≠ (1 : Tag)) ∧
      (caseAt s 1).state = .expected ∧ (caseAt (after s (.sweepVisit 1)) 1).state = .lapsed := by
  refine ⟨⟨by unfold State.listens; decide +kernel, ?_⟩, by decide +kernel, by decide +kernel⟩
  intro set h _
  have hs : (after beforeSweep .midnightRollover).calendar.sweep = some [1, 2, 3] := by decide +kernel
  obtain rfl : [1, 2, 3] = set := Option.some.inj (hs.symm.trans h)
  exact ⟨2, by simp, by decide⟩

theorem witness_FetchCase :
    awaiting.listens 0 .bench ∧ awaiting.listens 7 .stock ∧ (caseAt awaiting 2).awaitsAudit ∧ awaiting.case? 2 = some (caseAt awaiting 2) ∧
      awaiting.case? 9 = none :=
  ⟨by unfold State.listens; decide +kernel, by unfold State.listens; decide +kernel,
    ⟨{ selected := true, resolution := none }, by decide +kernel, rfl, rfl⟩, by decide +kernel, by decide +kernel⟩

/-- The same floor with another first verdict on tag 2. -/
def otherVerdict : State := awaiting.setCase 2
  { caseAt awaiting 2 with firstGrade := (caseAt awaiting 2).firstGrade.map fun g => { g with score := 700, band := .b }, finalBand := some .b }

theorem witness_BlindViewHidesTheVerdict :
    awaiting.listens 0 .bench ∧ otherVerdict.listens 0 .bench ∧ awaiting.case? 2 = some (caseAt awaiting 2) ∧
      otherVerdict.case? 2 = some (caseAt otherVerdict 2) ∧ (caseAt awaiting 2).awaitsAudit ∧ (caseAt otherVerdict 2).awaitsAudit ∧
      caseAt otherVerdict 2 = { caseAt awaiting 2 with firstGrade := (caseAt otherVerdict 2).firstGrade, finalBand := (caseAt otherVerdict 2).finalBand, refundGate := (caseAt otherVerdict 2).refundGate } ∧
      (caseAt otherVerdict 2).firstGrade ≠ (caseAt awaiting 2).firstGrade ∧
      exec (.fetchCase 0 0 2) awaiting = .next (after awaiting (.fetchCase 0 0 2)) ∧
      exec (.fetchCase 0 0 2) otherVerdict = .next (after otherVerdict (.fetchCase 0 0 2)) :=
  ⟨by unfold State.listens; decide +kernel, by unfold State.listens; decide +kernel, by decide +kernel, by decide +kernel,
    ⟨{ selected := true, resolution := none }, by decide +kernel, rfl, rfl⟩,
    ⟨{ selected := true, resolution := none }, by decide +kernel, rfl, rfl⟩, by decide +kernel, by decide +kernel, rfl, rfl⟩

/-- An EXPECTED, a held (by P0 and from P1), a LAPSED and a GRADED case, each with parts that fit its state. -/
theorem witness_ClaimCase :
    (floor.listens 0 .bench ∧ floor.mode = .live ∧ ∀ c, floor.case? 1 = some c → c.partsFit ∧ c.state ≠ .auditWait) ∧
    (held.listens 0 .bench ∧ held.listens 1 .bench ∧ held.mode = .live ∧ ∀ c, held.case? 1 = some c → c.partsFit ∧ c.state ≠ .auditWait) ∧
    (graded.listens 0 .bench ∧ graded.mode = .live ∧ ∀ c, graded.case? 1 = some c → c.partsFit ∧ c.state ≠ .auditWait) := by
  have key : ∀ (s : State) (t : Tag), (s.case? t).isSome = true → (caseAt s t).partsFit → (caseAt s t).state ≠ .auditWait →
      ∀ c, s.case? t = some c → c.partsFit ∧ c.state ≠ .auditWait := by
    intro s t _ hf hs c hc
    have : caseAt s t = c := by simp [caseAt, hc]
    exact this ▸ ⟨hf, hs⟩
  refine ⟨⟨?_, ?_, key _ _ ?_ ?_ ?_⟩, ⟨?_, ?_, ?_, key _ _ ?_ ?_ ?_⟩, ⟨?_, ?_, key _ _ ?_ ?_ ?_⟩⟩ <;>
    first
    | (unfold State.listens; decide +kernel)
    | (unfold Case.partsFit; decide +kernel)
    | decide +kernel

theorem witness_AuditClaim :
    parked.listens 1 .bench ∧ parked.mode = .live ∧ parked.case? 2 = some (caseAt parked 2) ∧ (caseAt parked 2).state = .auditWait := by
  unfold State.listens; decide +kernel

/-- OPEN, FULL, DRAINING with a place reserved, DRAINING with two tags and with one. -/
theorem witness_ManifestRemoval :
    (placed.tote 8).state = .opened ∧ (parked.tote 9).state = .full ∧
    (let s := State.reset.setTote 1 (withTote .draining 4 1 [7]); (s.tote 1).state = .draining ∧ 0 < (s.tote 1).reserved) ∧
    (let s := State.reset.setTote 1 (withTote .draining 4 0 [7, 8])
     (s.tote 1).state = .draining ∧ (s.tote 1).reserved = 0 ∧ (s.tote 1).manifest.erase 7 ≠ []) ∧
    (crowded.tote 5).state = .draining ∧ (crowded.tote 5).reserved = 0 ∧ (crowded.tote 5).manifest.erase 8 = [] := by decide +kernel

theorem fits_everywhere (s : State) (h : s.cases.entries.all (fun e =>
      decide (e.2.holder.isSome = true ↔ e.2.state = .onBench ∨ e.2.state = .onAudit) &&
        decide (e.2.reservation.isSome = true ↔ e.2.state = .routed)) = true) :
    ∀ t c, s.case? t = some c → c.partsFit := by
  refine State.forall_case fun e he => ?_
  have := List.all_eq_true.mp h e he
  rw [Bool.and_eq_true, decide_eq_true_eq, decide_eq_true_eq] at this
  exact this

theorem witness_ReleaseCase :
    (held.listens 0 .bench ∧ held.mode = .live ∧ (∀ c, held.case? 1 = some c → c.partsFit) ∧
      (caseAt held 1).holder.map (·.port) = some 0 ∧ (caseAt held 1).state = .onBench) ∧
    (auditHeld.listens 1 .bench ∧ auditHeld.mode = .live ∧ (∀ c, auditHeld.case? 2 = some c → c.partsFit) ∧
      (caseAt auditHeld 2).holder.map (·.port) = some 1 ∧ (caseAt auditHeld 2).state = .onAudit) := by
  refine ⟨⟨?_, ?_, fits_everywhere _ ?_ 1, ?_, ?_⟩, ⟨?_, ?_, fits_everywhere _ ?_ 2, ?_, ?_⟩⟩ <;>
    first
    | (unfold State.listens; decide +kernel)
    | decide +kernel

/-- The hold of tag 1 after its last second event, and the same hold one second event earlier, not due. -/
theorem witness_HoldLapse :
    (∃ h, (ran shortHold (seconds 30)).case? 1 = some (caseAt (ran shortHold (seconds 30)) 1) ∧
      (caseAt (ran shortHold (seconds 30)) 1).holder = some h ∧ h.due = true ∧ (caseAt (ran shortHold (seconds 30)) 1).partsFit) ∧
    (∀ c h, (ran shortHold (seconds 29)).case? 1 = some c → c.holder = some h → h.due = false) := by
  refine ⟨⟨{ port := 0, deadline := 30, due := true }, by decide +kernel, by decide +kernel, rfl, by unfold Case.partsFit; decide +kernel⟩, ?_⟩
  intro c h hc hh
  have e : ((ran shortHold (seconds 29)).case? 1).bind (·.holder) = some { port := 0, deadline := 30, due := false } := by decide +kernel
  rw [hc, Option.bind_some, hh] at e
  exact (Option.some.inj e) ▸ rfl

/-- The holder, another port, and P0 with a submission already in the engine; lists of 0 and of 16 observations. -/
theorem witness_SubmitGrade :
    (held.listens 0 .bench ∧ held.mode = .live ∧ ([] : List Observation).length ≤ 16) ∧
      (held.listens 1 .bench ∧ (List.replicate 16 (⟨63, 15⟩ : Observation)).length ≤ 16) ∧
      held.engine = none ∧ held.gradingQueue = [] ∧ grading.engine ≠ none ∧ grading.listens 1 .bench := by
  unfold State.listens; decide +kernel

/-- An IDLE engine with a submission waiting, which only the event of a completion's own kind meets in a run (R69). -/
def idleQueue : State := (grading.withGradingQueue (grading.engine.map (·.submission)).toList).withEngine none

theorem witness_EngineTakes :
    idleQueue.engine = none ∧
      idleQueue.gradingQueue = { tag := 1, grader := 0, kind := .first, observed := seen, observations := [] } :: [] ∧
      idleQueue.case? 1 = some (caseAt idleQueue 1) ∧ grading.engine ≠ none ∧ floor.gradingQueue = [] := by decide +kernel

theorem witness_ScaledProduct :
    let row : Store WeightEntry := ⟨[(63, ⟨4095, false⟩)]⟩
    (weightIn row 63).weight ≤ 4095 ∧ (weightIn row 0).weight ≤ 4095 ∧ contribution .plusOne row ⟨63, 15⟩ = 57330 ∧
      contribution .minusTwo ⟨[(63, ⟨3, false⟩)]⟩ ⟨63, 1⟩ = 0 := by decide +kernel

/-- Each side of 65535: a sum of exactly that, and one more. -/
theorem witness_Deduction :
    let row : Store WeightEntry := ⟨[(1, ⟨4095, false⟩), (2, ⟨1365, true⟩), (3, ⟨1, true⟩)]⟩
    let obs : List Observation := [⟨1, 7⟩, ⟨1, 7⟩, ⟨1, 1⟩, ⟨1, 1⟩, ⟨3, 15⟩, ⟨3, 7⟩, ⟨3, 1⟩]
    (tallyOf .zero row obs).deduction = 65535 ∧ (tallyOf .zero row obs).ceilingFlag = false ∧
      (tallyOf .zero row (⟨3, 1⟩ :: obs)).deduction = 65535 ∧ (tallyOf .zero row (⟨3, 1⟩ :: obs)).ceilingFlag = true ∧
      (tallyOf .zero row obs).wear = 15 ∧ (tallyOf .zero row obs).clampedFlag = true := by decide +kernel

/-- A grade of 1000 points exactly and one above: S is 0 with FLOOR clear and set. -/
theorem witness_Score :
    let g := fun n => (computing CategoryRecord.neutral [(1, ⟨n, false⟩), (2, ⟨3995, false⟩)] [⟨2, 4⟩, ⟨1, 1⟩]).grade false
    ((g 27).deduction, (g 27).score, (g 27).floorFlag) = (16007, 0, false) ∧
      ((g 28).deduction, (g 28).score, (g 28).floorFlag) = (16008, 0, true) := by decide +kernel

theorem witness_Band :
    (let r := CategoryRecord.neutral
     r.tC ≤ r.tB ∧ r.tB ≤ r.tA ∧ r.tA ≤ 1000 ∧ [1000, 900, 899, 700, 699, 400, 399, 0].map (bandOf r) =
       [Band.a, .a, .b, .b, .c, .c, .d, .d]) ∧
    (let r := { CategoryRecord.neutral with tA := 1000, tB := 1000, tC := 0 }
     r.tC ≤ r.tB ∧ r.tB ≤ r.tA ∧ r.tA ≤ 1000 ∧ [1000, 999, 0].map (bandOf r) = [Band.a, .c, .c]) ∧
    (let r := { CategoryRecord.neutral with tA := 0, tB := 0, tC := 0 }
     r.tC ≤ r.tB ∧ r.tB ≤ r.tA ∧ r.tA ≤ 1000 ∧ bandOf r 0 = .a) := by decide

theorem witness_FirstGradeCompletion :
    (∃ k, grading.engine = some k ∧ k.submission.kind = .first ∧ grading.case? k.submission.tag = some (caseAt grading 1)) ∧
      (∀ k, auditing.engine = some k → k.submission.kind = .audit) ∧ ∀ k, floor.engine = some k → k.submission.kind = .audit := by
  have he : ∃ k, grading.engine = some k ∧ k.submission.kind = .first ∧ k.submission.tag = 1 := by
    have e : grading.engine.map (fun k => (k.submission.kind, k.submission.tag)) = some (.first, 1) := by decide +kernel
    obtain ⟨k, hk, hp⟩ := Option.map_eq_some_iff.mp e
    exact ⟨k, hk, by simpa using (Prod.ext_iff.mp hp).1, by simpa using (Prod.ext_iff.mp hp).2⟩
  obtain ⟨k, hk, hkind, htag⟩ := he
  refine ⟨⟨k, hk, hkind, ?_⟩, ?_, ?_⟩
  · rw [htag]; decide +kernel
  · intro k hk
    have e : auditing.engine.map (·.submission.kind) = some .audit := by decide +kernel
    rw [hk] at e; simpa using e
  · intro k hk
    have e : floor.engine = none := by decide +kernel
    simp [e] at hk

theorem witness_AuditGradeCompletion :
    (∃ k first a, auditing.engine = some k ∧ k.submission.kind = .audit ∧ auditing.case? k.submission.tag = some (caseAt auditing 2) ∧
      (caseAt auditing 2).firstGrade = some first ∧ (caseAt auditing 2).audit = some a ∧ (caseAt auditing 2).finalBand = some .a) ∧
      (∀ k, grading.engine = some k → k.submission.kind = .first) ∧ ∀ k, floor.engine = some k → k.submission.kind = .first := by
  have he : ∃ k, auditing.engine = some k ∧ k.submission.kind = .audit ∧ k.submission.tag = 2 := by
    have e : auditing.engine.map (fun k => (k.submission.kind, k.submission.tag)) = some (.audit, 2) := by decide +kernel
    obtain ⟨k, hk, hp⟩ := Option.map_eq_some_iff.mp e
    exact ⟨k, hk, by simpa using (Prod.ext_iff.mp hp).1, by simpa using (Prod.ext_iff.mp hp).2⟩
  obtain ⟨k, hk, hkind, htag⟩ := he
  obtain ⟨first, hf⟩ := Option.isSome_iff_exists.mp (show (caseAt auditing 2).firstGrade.isSome = true by decide +kernel)
  obtain ⟨a, ha⟩ := Option.isSome_iff_exists.mp (show (caseAt auditing 2).audit.isSome = true by decide +kernel)
  refine ⟨⟨k, first, a, hk, hkind, ?_, hf, ha, by decide +kernel⟩, ?_, ?_⟩
  · rw [htag]; decide +kernel
  · intro k hk
    have e : grading.engine.map (·.submission.kind) = some .first := by decide +kernel
    rw [hk] at e; simpa using e
  · intro k hk
    have e : floor.engine = none := by decide +kernel
    simp [e] at hk

theorem witness_Sampler : (0x8000 : BitVec 16) ≠ 0 ∧ samplerStep 0x8000 ≠ 0 := by decide

/-- Runs of one and of sixteen entries; a category in the engine and one that is not. -/
theorem witness_WriteWeights :
    let e : WeightWrite := { weight := 4095, wear := true }
    grading.listens 7 .stock ∧ 1 ≤ [e].length ∧ (List.replicate 16 e).length ≤ 16 ∧ 48 + (List.replicate 16 e).length ≤ 64 ∧
      (∃ x ∈ grading.submissions, ∃ c, grading.case? x.tag = some c ∧ c.category.val = 0) ∧
      ¬ ∃ x ∈ grading.submissions, ∃ c, grading.case? x.tag = some c ∧ c.category.val = 3 := by
  have hs : grading.submissions = [{ tag := 1, grader := 0, kind := .first, observed := seen, observations := [] }] := by decide +kernel
  have hc : grading.case? 1 = some (caseAt grading 1) := by decide +kernel
  have h0 : (caseAt grading 1).category = 0 := by decide +kernel
  refine ⟨?_, ?_, ?_, ?_, ?_, ?_⟩
  · unfold State.listens; decide +kernel
  · simp
  · simp
  · simp
  · rw [hs]
    exact ⟨_, List.mem_singleton_self _, caseAt grading 1, hc, by rw [h0]; decide⟩
  · rintro ⟨x, hx, c, hx', hv⟩
    rw [hs, List.mem_singleton] at hx
    subst hx
    rw [hc] at hx'
    rw [← Option.some.inj hx', h0] at hv
    exact absurd hv (by decide)

theorem witness_WriteToteMap :
    let e : MapWrite := { cls := 5, category := 15, valid := true, tote := 255 }
    floor.listens 7 .stock ∧ 1 ≤ [e].length ∧ (List.replicate 16 e).length ≤ 16 ∧ (∀ x ∈ [e], x.cls.toNat ≤ 5 ∧ x.category.toNat ≤ 15) ∧
      ∃ x ∈ [e, { e with cls := 6 }], 5 < x.cls.toNat ∨ 15 < x.category.toNat := by
  refine ⟨listens_stock, ?_, ?_, ?_, ?_⟩ <;> decide

theorem witness_RouteQuery_without_place :
    (graded.listens 6 .induct ∧ graded.mode = .live ∧ ∀ c, graded.case? 1 = some c → c.partsFit) ∧
    (routed.listens 6 .induct ∧ routed.mode = .live ∧ (∀ c, routed.case? 1 = some c → c.partsFit) ∧ (caseAt routed 1).state = .routed) ∧
    (quarantined.listens 6 .induct ∧ (∀ c, quarantined.case? 2 = some c → c.partsFit) ∧ quarantined.mapEntry .review 3 = none) ∧
    ((after graded .stopRise).listens 6 .induct ∧ (after graded .stopRise).stopped = true) := by
  refine ⟨⟨?_, ?_, fits_everywhere _ ?_ 1⟩, ⟨?_, ?_, fits_everywhere _ ?_ 1, ?_⟩, ⟨?_, fits_everywhere _ ?_ 2, ?_⟩, ?_, ?_⟩ <;>
    first
    | (unfold State.listens; decide +kernel)
    | decide +kernel

theorem witness_RouteQuery_reserves :
    graded.listens 6 .induct ∧ graded.mode = .live ∧ graded.stopped = false ∧ graded.case? 1 = some (caseAt graded 1) ∧
      (caseAt graded 1).state = .graded ∧ (caseAt graded 1).classCalledFor = some .restock ∧
      graded.mapEntry .restock (caseAt graded 1).category = some 8 ∧ walk graded.tote 4 8 = some 8 := by
  unfold State.listens; decide +kernel

/-- Into T8, which stays OPEN, and into T9, which becomes FULL. -/
theorem witness_ConfirmPlacement_places :
    (routed.listens 6 .induct ∧ routed.mode = .live ∧ routed.case? 1 = some (caseAt routed 1) ∧ (caseAt routed 1).state = .routed ∧
      (caseAt routed 1).reservation = some { tote := 8, deadline := 90, due := false }) ∧
    (let s := served 6 awaiting [.routeQuery 6 0 2]
     s.listens 6 .induct ∧ s.mode = .live ∧ s.case? 2 = some (caseAt s 2) ∧ (caseAt s 2).state = .routed ∧
      (caseAt s 2).reservation = some { tote := 9, deadline := 90, due := false } ∧ (caseAt s 2).routeClass = some .audit ∧
      (s.tote 9).state = .opened ∧ (s.tote 9).capacity ≤ (s.tote 9).filled + 1) := by
  unfold State.listens; decide +kernel

theorem witness_ConfirmPlacement_refused :
    (routed.listens 6 .induct ∧ routed.mode = .live ∧ (caseAt routed 1).state = .routed ∧
      (caseAt routed 1).reservation = some { tote := 8, deadline := 90, due := false } ∧ (8 : ToteNo) ≠ 9) ∧
    (let s := ran routed (seconds 90 ++ [.dwellLapse 1])
     s.listens 6 .induct ∧ (caseAt s 1).state = .graded ∧ (caseAt s 1).lastLapsedTote = some 8) := by
  unfold State.listens; decide +kernel

theorem witness_ReservationsAreHandedBack :
    (routed.listens 6 .induct ∧ routed.mode = .live ∧ routed.case? 1 = some (caseAt routed 1) ∧ (caseAt routed 1).state = .routed) ∧
    (graded.listens 6 .induct ∧ graded.mode = .live ∧ ∀ c, graded.case? 1 = some c → c.state ≠ .routed) ∧
    (let s := ran routed (seconds 90)
     s.case? 1 = some (caseAt s 1) ∧ (caseAt s 1).reservation = some { tote := 8, deadline := 90, due := true } ∧ s.stopped = false) ∧
    (∀ c r, graded.case? 1 = some c → c.reservation = some r → r.due = false ∨ graded.stopped = true) := by
  refine ⟨by unfold State.listens; decide +kernel, ⟨by unfold State.listens; decide +kernel, by decide +kernel, ?_⟩, by decide +kernel, ?_⟩
  · intro c hc
    have e : (graded.case? 1).map (·.state) = some .graded := by decide +kernel
    rw [hc, Option.map_some] at e
    rw [Option.some.inj e]; decide
  · intro c r hc hr
    have e : (graded.case? 1).bind (·.reservation) = none := by decide +kernel
    rw [hc, Option.bind_some, hr] at e
    cases e

theorem witness_StopLine : routed.stopped = false ∧ (after routed .stopRise).stopped = true ∧ (caseAt routed 1).state = .routed := by
  decide +kernel

theorem witness_ToteSwap :
    placed.listens 6 .induct ∧ placed.mode = .live ∧ (placed.tote 8).state = .opened ∧ (placed.tote 0).state = .unused ∧
      crowded.listens 6 .induct ∧ crowded.mode = .live ∧ (crowded.tote 5).state = .draining := by
  unfold State.listens; decide +kernel

theorem witness_Drain :
    (let s := State.reset.setTote 1 (withTote .draining 4 0 []); (s.tote 1).state = .draining ∧ (s.tote 1).reserved = 0 ∧ (s.tote 1).filled = 0) ∧
    (let s := crowded.withOutbound (crowded.outbound.drop 1)
     (s.tote 5).state = .draining ∧ (s.tote 5).reserved = 0 ∧ 0 < (s.tote 5).filled ∧ s.outbound.length = 15) ∧
    (crowded.tote 5).state = .draining ∧ (crowded.tote 5).reserved = 0 ∧ 0 < (crowded.tote 5).filled ∧ 16 ≤ crowded.outbound.length := by
  decide +kernel

theorem canonical_of (s : State) (h : (s.cases.sorted && s.cases.entries.all (fun e => decide (e.1 < 2 ^ 32)) && s.totes.lists Tote.unused &&
      s.totes.entries.all (fun e => decide (e.1 < 256)) && s.toteMap.sorted && s.categories.lists CategoryRecord.neutral &&
      s.weights.lists Store.empty && s.weights.entries.all (fun e => e.2.lists WeightEntry.zero) &&
      decide (∀ p, (s.port p).notices.sorted = true) && decide (s.cases.size ≤ 1024) && decide (s.outbound.length ≤ 16)) = true) :
    Canonical s := by
  simp only [Bool.and_eq_true, decide_eq_true_eq, List.all_eq_true] at h
  obtain ⟨⟨⟨⟨⟨⟨⟨⟨⟨⟨a, b⟩, c⟩, d⟩, e⟩, f⟩, g⟩, i⟩, j⟩, k⟩, l⟩ := h
  exact ⟨a, b, c, d, e, f, g, i, j, k, l⟩

/-- T5 is the lowest of the totes that wait, T5 and T20, and the queue has a place; and a floor with none waiting. -/
theorem witness_FreedPlace :
    let s := crowded.withOutbound (crowded.outbound.drop 1)
    crowded.listens 7 .stock ∧ Canonical s ∧ (s.tote 5).state = .draining ∧ (s.tote 5).reserved = 0 ∧ (s.tote 5).manifest ≠ [] ∧
      (∀ v, (s.tote v).state = .draining ∧ (s.tote v).reserved = 0 ∧ (s.tote v).manifest ≠ [] → 5 ≤ v) ∧ s.outbound.length < 16 ∧
      16 ≤ crowded.outbound.length := by
  refine ⟨by unfold State.listens; decide +kernel, canonical_of _ ?_, ?_, ?_, ?_, ?_, ?_, ?_⟩ <;> decide +kernel

/-- At 23:59:59 with cases, at 23:59:59 with none, and at 23:59:58; and a hold that is due at the next second event. -/
theorem witness_SecondEvent :
    ((∀ tag c, beforeSweep.case? tag = some c → c.lapseDue = false) ∧ Canonical beforeSweep ∧
      (23 ≤ beforeSweep.calendar.hour ∧ 59 ≤ beforeSweep.calendar.minute ∧ 59 ≤ beforeSweep.calendar.second) ∧ beforeSweep.cases.size ≠ 0) ∧
    (let s := State.reset.withCalendar { Calendar.reset with second := 59, minute := 59, hour := 23 }
     (∀ tag c, s.case? tag = some c → c.lapseDue = false) ∧ Canonical s ∧ s.cases.size = 0) ∧
    ((∀ tag c, floor.case? tag = some c → c.lapseDue = false) ∧ Canonical floor ∧
      ¬ (23 ≤ floor.calendar.hour ∧ 59 ≤ floor.calendar.minute ∧ 59 ≤ floor.calendar.second)) ∧
    (let s := ran shortHold (seconds 30)
     Canonical s ∧ s.case? 1 = some (caseAt s 1) ∧ (caseAt s 1).holder = some { port := 0, deadline := 30, due := true }) := by
  refine ⟨⟨State.forall_case ?_, canonical_of _ ?_, ?_, ?_⟩, ⟨State.forall_case ?_, canonical_of _ ?_, ?_⟩,
    ⟨State.forall_case ?_, canonical_of _ ?_, ?_⟩, canonical_of _ ?_, ?_, ?_⟩ <;> decide +kernel

/-- A dwell lapse that is outstanding at the next second event, which takes it. -/
theorem witness_SecondEvent_dwell :
    let s := ran routed (seconds 90)
    Canonical s ∧ s.case? 1 = some (caseAt s 1) ∧ (caseAt s 1).reservation = some { tote := 8, deadline := 90, due := true } ∧
      s.stopped = false ∧ (caseAt (after s .secondEvent) 1).lastLapsedTote = some 8 := by
  refine ⟨canonical_of _ ?_, ?_⟩ <;> decide +kernel

/-- A visit that leaves the set unfinished, the last visit, a tag not in the set, and the cancel of the last case of the set. -/
theorem witness_Sweep :
    (let s := after beforeSweep .midnightRollover
     s.calendar.sweep = some [1, 2, 3] ∧ (caseAt s 1).state = .expected ∧ s.settings.expectLimit < s.calendar.day - (caseAt s 1).openedDay) ∧
    (let s := ran beforeSweep [.midnightRollover, .sweepVisit 1, .sweepVisit 2]
     s.calendar.sweep = some [3] ∧ s.listens 7 .stock ∧ s.case? 3 = some (caseAt s 3) ∧
       (caseAt s 3).state = .expected) ∧ floor.calendar.sweep = none := by
  unfold State.listens; decide +kernel

/-- A PLACED case whose tote has departed is the last of the set, for Close Case; and one that is refused there. -/
theorem witness_Sweep_closes :
    let last := fun (s : State) => s.withCalendar { s.calendar with sweep := some [1] }
    let s := last (served 6 placed [.toteSwap 6 0 8])
    s.listens 7 .stock ∧ s.case? 1 = some (caseAt s 1) ∧ (caseAt s 1).state = .placed ∧ (caseAt s 1).location = .departed ∧
      s.calendar.sweep = some [1] ∧ status (after s (.closeCase 7 0 1)) 7 = some .ok ∧
      (after s (.closeCase 7 0 1)).calendar.sweep = none ∧ status (after (last placed) (.closeCase 7 0 1)) 7 = some .wrongState := by
  unfold State.listens; decide +kernel

/-- P7 with two causes pending and enabled, and with none. -/
theorem witness_Notices :
    (let s := ran (after floor (.setNoticeMask 7 0 0xFFF)) [.replySent 7, .parityError 7, .stopRise]
     s.listens 7 .stock ∧ (s.port 7).notice? .stopChange = some (.stopLevel true) ∧ (s.port 7).calls .stopChange = true ∧
       (s.port 7).calls .lineFault = true) ∧
    floor.listens 0 .bench ∧ (floor.port 0).pendingCauses = [] := by
  unfold State.listens; decide +kernel

theorem witness_Reports : floor.listens 7 .stock ∧ floor.listens 0 .bench ∧ crowded.listens 7 .stock ∧ (crowded.tote 5).waits = true := by
  unfold State.listens; decide +kernel

/-- The shortest and the longest of the lists, and every operand at its largest. -/
theorem witness_GoodFrame :
    let big := Request.submitGrade 0xFFFFFFFF { seen with size := 63, material := 63 } (List.replicate 75 ⟨63, 15⟩)
    Request.queryNotice.spelled = true ∧ Request.queryNotice.len ≤ 160 ∧ big.spelled = true ∧ big.len ≤ 160 ∧
      (Request.unknownKind 255).spelled = true ∧ (State.reset.port 0).assembler = .idle ∧ readRequest big.kind big.fields = big := by
  decide +kernel

/-- A LEN of 2 and of 160 with another CHK, a LEN of 1 and of 161, and what is not SYNC. -/
theorem witness_GoodFrame_faults :
    (State.reset.port 0).assembler = .idle ∧ (0 : Byte) ≠ crc8 [2, 4, 0x11] ∧ ([4, 0x11] : List Byte).length = (2 : Byte).toNat ∧
      ((List.replicate 160 7 : List Byte).length = (160 : Byte).toNat ∧ ∃ chk, chk ≠ crc8 (160 :: List.replicate 160 7)) ∧
      (1 : Byte).toNat < 2 ∧ 160 < (161 : Byte).toNat ∧ ∀ b ∈ ([0xA4, 0xA6] : List Byte), b ≠ 0xA5 := by
  refine ⟨by decide +kernel, by decide +kernel, rfl, ⟨by decide +kernel, ?_⟩, by decide +kernel⟩
  generalize crc8 (160 :: List.replicate 160 7) = x
  exact ⟨x + 1, by bv_omega⟩

/-- A frame of a wrong length waits and is refused when it moves up; the same frame with both slots full; an OFF port and a port within a
break. -/
theorem witness_Slots_frames :
    let long := fun num => Instr.goodFrame 0 (frameChars [4, num, 0])
    let two := ran State.reset [.readClock 0 1, long 2]
    readRequest 4 [0] = .wrongLength 4 ∧ (two.port 0).assembler = .idle ∧ (two.port 0).deaf = false ∧ (two.replyAt 0).isSome = true ∧
      (two.port 0).waiting = some { num := 2, request := .wrongLength 4 } ∧ status (after two (.replySent 0)) 0 = some .badLength ∧
      ((after two (long 3)).port 0).line.overrun = true ∧ ((State.afterReset 0 0 false).port 0).role = .off ∧
      ((after State.reset (.portReset 0)).port 0).inBreak = true := by decide +kernel

/-- One request in service with its reply ready, two with the second waiting, and both slots full. -/
theorem witness_Slots :
    let one := after State.reset (.readClock 0 1)
    let two := after one (.readClock 0 2)
    Request.readClock.spelled = true ∧ Request.readClock.len ≤ 160 ∧ (one.port 0).deaf = false ∧ (one.port 0).service ≠ none ∧
      (one.port 0).waiting = none ∧ (one.replyAt 0).isSome = true ∧
      (two.port 0).waiting = some { num := 2, request := .readClock } ∧ (two.port 0).service ≠ none ∧ (two.port 0).deaf = false ∧
      (State.reset.port 0).service = none := by decide +kernel

theorem witness_LineFaults : (State.reset.port 0).deaf = false ∧ ((after State.reset (.portReset 0)).port 0).deaf = true ∧
    (((State.afterReset 0 0 false).port 0).deaf = true) := by decide +kernel

/-- A port that holds a case ON_AUDIT and one ON_BENCH. -/
theorem witness_PortReset :
    let s := served 1 auditHeld [.claimCase 1 0 1]
    (s.port 1).deaf = false ∧ Canonical s ∧ (∀ tag c, s.case? tag = some c → c.partsFit) ∧
      (caseAt s 1).holder.map (·.port) = some 1 ∧ (caseAt s 1).state = .onBench ∧
      (caseAt s 2).holder.map (·.port) = some 1 ∧ (caseAt s 2).state = .onAudit := by
  refine ⟨?_, canonical_of _ ?_, fits_everywhere _ ?_, ?_, ?_, ?_, ?_⟩ <;> decide +kernel

theorem witness_PortChecks :
    State.reset.listens 0 .bench ∧ State.reset.mode = .config ∧ (Request.claimCase 1).spelled = true ∧ (Request.claimCase 1).len ≤ 160 ∧
      (Request.submitGrade 1 seen (List.replicate 17 ⟨0, 0⟩)).len ≤ 160 ∧ (Request.unknownKind 0).spelled = true ∧
      (State.reset.port 0).assembler = .idle ∧ readRequest 4 [0] = .wrongLength 4 ∧ readRequest 11 [0, 0] = .writeWeights 0 0 [] := by
  unfold State.listens; decide +kernel

theorem witness_PortChecks_routeQuery :
    State.reset.listens 6 .induct ∧ State.reset.mode = .config ∧ (Request.routeQuery 1).spelled = true ∧ (Request.routeQuery 1).len ≤ 160 := by
  unfold State.listens; decide +kernel

/-- A busy floor in LIVE, a LIVE floor at rest, and a CONFIG floor in which a sweep is in flight. -/
theorem witness_FloorModes :
    grading.listens 7 .stock ∧ grading.engine ≠ none ∧ floor.listens 7 .stock ∧ floor.mode = .live ∧
    (let s := after (served 7 beforeSweep [.goConfig 7 0]) .midnightRollover
     s.listens 7 .stock ∧ s.mode = .config ∧ s.calendar.sweep ≠ none) := by
  unfold State.listens; decide +kernel

/-- A state near reset, and a step from it: the hypotheses of the six invariants (reset meets their laws: ResetMeetsTheInvariants). -/
theorem witness_Invariants :
    let s := (State.reset.withStopped true).withPending [.stopFall]
    AttnFollows s ∧ LockFollows s ∧ Canonical s ∧ step s = .next (after (State.reset.withStopped true) .stopFall) := by
  refine ⟨by unfold AttnFollows; decide +kernel, by unfold LockFollows; decide +kernel, canonical_of _ (by decide +kernel), rfl⟩

/-- The state of the invariants' witnesses. -/
def nearReset : State := (State.reset.withStopped true).withPending [.stopFall]

theorem nearReset_empty (t : Tag) : nearReset.case? t = none := rfl

theorem witness_Invariants_range : InRange nearReset := by
  have none_there : ∀ {t c}, nearReset.case? t = some c → False := fun h => by rw [nearReset_empty] at h; cases h
  unfold InRange BenchOnly CategoryRecord.inRange Calendar.inRange Settings.inRange
  refine ⟨by decide +kernel, fun c k => Nat.zero_le _, by decide +kernel, by decide +kernel, by decide +kernel,
    ⟨by decide +kernel, by decide +kernel, fun t c h => (none_there h).elim⟩, fun t c h => (none_there h).elim, by decide +kernel,
    fun k h => ?_, fun e h => ?_, by decide +kernel, fun u => ?_⟩
  · cases h
  · cases h
  · show 1 ≤ Tote.unused.capacity ∧ Tote.unused.capacity ≤ 32
    decide

theorem witness_Invariants_grading : GradingLaw nearReset ∧ HistoryLaw nearReset := by
  have none_there : ∀ {t c}, nearReset.case? t = some c → False := fun h => by rw [nearReset_empty] at h; cases h
  exact ⟨⟨fun t c h => (none_there h).elim, fun t c h => (none_there h).elim, by decide +kernel, by decide +kernel, by decide +kernel,
    fun _ => rfl, fun _ => rfl⟩, fun t c h => (none_there h).elim, fun x hx => by cases hx⟩

theorem witness_Invariants_totes :
    let s := (State.reset.withStopped true).withPending [.stopFall]
    ManifestLaw s ∧ CountLaw s := by
  have none_there : ∀ t, ((State.reset.withStopped true).withPending [.stopFall]).case? t = none := fun _ => rfl
  have unused : ∀ u, ((State.reset.withStopped true).withPending [.stopFall]).tote u = .unused := fun _ => rfl
  refine ⟨⟨?_, ?_, ?_, ?_⟩, ?_⟩
  · intro t c h; rw [none_there] at h; cases h
  · intro u t
    rw [unused, none_there]
    simp [Tote.unused]
  · intro u; rw [unused]; decide
  · intro u _; rw [unused]; rfl
  · intro u
    rw [unused]
    simp [Tote.unused, State.routedInto, State.reset, State.afterReset, State.withStopped, State.withPending, Store.empty]

end Sys2Proof.Tests
end

section
/-! SUPPORT. Expect Return and Force Disposition: what their block does by its checks, and the request from its arrival to its reply. -/

namespace Sys2Proof.Machine

/-! A new key in a store -/

theorem length_insertIn_of_findIn_none {ν : Type} {k : Nat} (v : ν) {l : List (Nat × ν)} (h : findIn k l = none) :
    (insertIn k v l).length = l.length + 1 := by
  induction l with
  | nil => rfl
  | cons e r ih =>
    unfold findIn at h
    split at h
    · cases h
    · unfold insertIn
      split
      · rfl
      · simp [ih h]

theorem Store.size_insert_of_find?_none {ν : Type} {m : Store ν} {k : Nat} (v : ν) (h : m.find? k = none) :
    (m.insert k v).size = m.size + 1 :=
  length_insertIn_of_findIn_none v h

/-! Expect Return -/

/-- A listening STOCK port's Expect Return reaches its block, whose answer is the reply. -/
theorem exec_expectReturn {s : State} {p : Port} (h : s.listens p .stock) (num : Byte) (a : Announcement) :
    exec (.expectReturn p num a) s = .next
      ((takeExpectReturn a (s.serving p num (.expectReturn a))).1.setReply p num (.expectReturn a)
        (takeExpectReturn a (s.serving p num (.expectReturn a))).2) :=
  went_arrive_answered (r := .expectReturn a) h (by decide : 16 ≤ 160) rfl rfl rfl (.inl rfl) rfl

/-- R8, check 1, by values. -/
theorem announcementBad_iff (a : Announcement) : announcementBad a = true ↔
    a.tag = 0 ∨ 15 < a.category.toNat ∨ 63 < a.size.toNat ∨ 63 < a.material.toNat := by
  simp [announcementBad, or_assoc]

theorem takeExpectReturn_badValue {a : Announcement} (s : State) (h : announcementBad a = true) :
    takeExpectReturn a s = (s, .bare .badValue) := by
  simp [takeExpectReturn, h]

theorem takeExpectReturn_duplicate {a : Announcement} {s : State} {c : Case} (h : ¬ announcementBad a = true)
    (hc : s.case? a.tag = some c) : takeExpectReturn a s = (s, { status := .duplicate, data := .caseState c.state }) := by
  simp [takeExpectReturn, h, hc]

theorem takeExpectReturn_tableFull {a : Announcement} {s : State} (h : ¬ announcementBad a = true)
    (hc : s.case? a.tag = none) (hf : 1024 ≤ s.cases.size) : takeExpectReturn a s = (s, .bare .tableFull) := by
  simp [takeExpectReturn, h, hc, Config.maxCases, hf]

theorem takeExpectReturn_opens {a : Announcement} {s : State} (h : ¬ announcementBad a = true)
    (hc : s.case? a.tag = none) (hf : ¬ 1024 ≤ s.cases.size) :
    takeExpectReturn a s = (s.setCase a.tag (.opened a s.today), .bare .ok) := by
  simp [takeExpectReturn, h, hc, Config.maxCases, hf]

/-- The checked codes of an announcement are carried into the case whole, none of them cut to its field's width. -/
theorem Case.opened_codes {a : Announcement} (h : ¬ announcementBad a = true) (today : Nat) :
    (Case.opened a today).category.val = a.category.toNat ∧ (Case.opened a today).declared.size.toNat = a.size.toNat ∧
      (Case.opened a today).declared.material.toNat = a.material.toNat := by
  rw [announcementBad_iff] at h
  simp only [Case.opened, toCategory, Fin.val_ofNat, BitVec.toNat_setWidth]
  omega

/-- Settles O7, check by check: each refusal leaves the state as it was, and an announcement that passes opens a case at a new tag. -/
theorem expectReturnOpensCase : Obligations.ExpectReturnOpensCase := by
  intro s p num a hs
  refine ⟨_, exec_expectReturn hs num a, ?_⟩
  split
  case isTrue hbad =>
    rw [takeExpectReturn_badValue _ ((announcementBad_iff a).mpr hbad)]
    exact State.onlyAnswered_setReply _
  case isFalse hok =>
    rw [← announcementBad_iff] at hok
    split
    case h_1 c hc =>
      rw [takeExpectReturn_duplicate (s := s.serving p num (.expectReturn a)) hok hc]
      exact State.onlyAnswered_setReply _
    case h_2 hc =>
      split
      case isTrue hfull =>
        rw [takeExpectReturn_tableFull (s := s.serving p num (.expectReturn a)) hok hc hfull]
        exact State.onlyAnswered_setReply _
      case isFalse hroom =>
        rw [takeExpectReturn_opens (s := s.serving p num (.expectReturn a)) hok hc hroom]
        obtain ⟨hcategory, hsize, hmaterial⟩ := Case.opened_codes hok s.today
        refine ⟨State.answered_setReply (fun _ => rfl) (.bare .ok), rfl, fun u hu => ?_, Store.size_insert_of_find?_none _ hc,
          .opened a s.today, ?_, rfl, hcategory, rfl, hsize, rfl, rfl, hmaterial, rfl, rfl, rfl, rfl, rfl, rfl, rfl, rfl, rfl,
          rfl, rfl, rfl, rfl, rfl⟩
        · exact (State.case?_setCase s a.tag u _).trans (if_neg hu)
        · exact (State.case?_setCase s a.tag a.tag _).trans (if_pos rfl)

/-! A request that takes a case out of its tote -/

/-- The notices after a tag's removal from its tote come from the totes, the roles and the notices before it alone. -/
theorem State.notice?_leaveTote_congr {s u : State} (ht : u.totes = s.totes) (hr : ∀ q, (u.port q).role = (s.port q).role)
    (hn : ∀ q e, (u.port q).notice? e = (s.port q).notice? e) (loc : Location) (tag : Tag) (q : Port) (e : Cause) :
    ((u.leaveTote loc tag).port q).notice? e = ((s.leaveTote loc tag).port q).notice? e := by
  cases loc with
  | none => exact hn q e
  | departed => exact hn q e
  | inTote t =>
    simp only [State.leaveTote, State.removeFromManifest, State.tote_of_totes ht]
    split
    · have hwho : toInductAndStock q (u.port q) = toInductAndStock q (s.port q) := by simp only [toInductAndStock, hr]
      by_cases hw : toInductAndStock q (s.port q) = true <;>
        simp [State.raiseSwapDone, hwho, hw, hn]
    · exact hn q e

/-- The lines and slots of a port do not show that a tag has left its tote: at most a notice is raised there. -/
theorem State.lines_leaveTote (s : State) (loc : Location) (tag : Tag) (q : Port) :
    (((s.leaveTote loc tag).port q).role = (s.port q).role ∧ ((s.leaveTote loc tag).port q).waiting = (s.port q).waiting ∧
      ((s.leaveTote loc tag).port q).line = (s.port q).line ∧ ((s.leaveTote loc tag).port q).enabled = (s.port q).enabled ∧
      ((s.leaveTote loc tag).port q).inBreak = (s.port q).inBreak) ∧
    ((s.leaveTote loc tag).port q).service = (s.port q).service ∧
    ((s.leaveTote loc tag).port q).assembler = (s.port q).assembler := by
  rcases s.port_leaveTote loc tag q with h | ⟨t, h⟩ <;> rw [h] <;> simp

section
variable (s : State) (p : Port) (num : Byte) (r : Request) (tag : Tag) (c : Case) (loc : Location) (a : Answer)

/-- The state after a request that writes a case record and takes the tag from its tote has been answered. -/
def State.rewrittenOutOfTote : State :=
  (((s.serving p num r).setCase tag c).leaveTote loc tag).setReply p num r a

theorem State.rewrittenOutOfTote_replied :
    (s.rewrittenOutOfTote p num r tag c loc a).replied p num r a.status a.data := by
  rw [State.replied, State.rewrittenOutOfTote, State.port_setReply_self]

theorem State.case?_rewrittenOutOfTote (u : Tag) :
    (s.rewrittenOutOfTote p num r tag c loc a).case? u = if u = tag then some c else s.case? u :=
  (State.case?_leaveTote _ loc tag u).trans (State.case?_setCase _ tag u c)

theorem State.totes_rewrittenOutOfTote :
    (s.rewrittenOutOfTote p num r tag c loc a).totes = (s.leaveTote loc tag).totes :=
  State.leaveTote_totes_congr s _ loc tag rfl

theorem State.notice?_rewrittenOutOfTote (q : Port) (e : Cause) :
    ((s.rewrittenOutOfTote p num r tag c loc a).port q).notice? e = ((s.leaveTote loc tag).port q).notice? e :=
  (State.notice?_setReply _ p num r a q e).trans
    (State.notice?_leaveTote_congr (s := s) (u := (s.serving p num r).setCase tag c) rfl (fun q => State.role_serving q)
      (State.notice?_serving s p num r) loc tag q e)

theorem State.sameLinesBut_rewrittenOutOfTote : s.sameLinesBut (s.rewrittenOutOfTote p num r tag c loc a) p :=
  State.sameLinesBut_setReply s p num r _ a (State.lines_leaveTote ((s.serving p num r).setCase tag c) loc tag)

theorem State.rewrittenOutOfTote_frame :
    s.rewrittenOutOfTote p num r tag c loc a =
      ((s.withCases (s.rewrittenOutOfTote p num r tag c loc a).cases).withTotes
        (s.rewrittenOutOfTote p num r tag c loc a).totes).withPorts (s.rewrittenOutOfTote p num r tag c loc a).ports := by
  unfold State.rewrittenOutOfTote
  rw [State.leaveTote_eq]
  rfl

end

/-! Force Disposition -/

/-- A listening STOCK port's Force Disposition reaches its block, whose answer is the reply. -/
theorem exec_forceDisposition {s : State} {p : Port} (h : s.listens p .stock) (num : Byte) (tag : Tag) (band gate : Byte) :
    exec (.forceDisposition p num tag band gate) s = .next
      ((takeForceDisposition tag band gate (s.serving p num (.forceDisposition tag band gate))).1.setReply p num
        (.forceDisposition tag band gate)
        (takeForceDisposition tag band gate (s.serving p num (.forceDisposition tag band gate))).2) :=
  went_arrive_answered (r := .forceDisposition tag band gate) h (by decide : 8 ≤ 160) rfl rfl rfl (.inl rfl) rfl

theorem readBand_eq_none {b : Byte} (h : 3 < b.toNat) : readBand b = none := by
  unfold readBand
  split
  case h_5 => rfl
  all_goals omega

/-- Each band code up to 3 is read as the band with that code. -/
theorem readBand_eq_some {b : Byte} (h : b.toNat ≤ 3) : ∃ bd, readBand b = some bd ∧ bd.code = b.toNat := by
  obtain h0 | h1 | h2 | h3 : b.toNat = 0 ∨ b.toNat = 1 ∨ b.toNat = 2 ∨ b.toNat = 3 := by omega
  · exact ⟨.a, by simp [readBand, h0], h0.symm⟩
  · exact ⟨.b, by simp [readBand, h1], h1.symm⟩
  · exact ⟨.c, by simp [readBand, h2], h2.symm⟩
  · exact ⟨.d, by simp [readBand, h3], h3.symm⟩

theorem readGate_eq_none {b : Byte} (h : 1 < b.toNat) : readGate b = none := by
  unfold readGate
  split
  case h_3 => rfl
  all_goals omega

/-- Each gate code up to 1 is read as the gate with that code. -/
theorem readGate_eq_some {b : Byte} (h : b.toNat ≤ 1) : ∃ g, readGate b = some g ∧ g.code = b.toNat := by
  obtain h0 | h1 : b.toNat = 0 ∨ b.toNat = 1 := by omega
  · exact ⟨.release, by simp [readGate, h0], h0.symm⟩
  · exact ⟨.hold, by simp [readGate, h1], h1.symm⟩

theorem takeForceDisposition_badValue {band gate : Byte} (tag : Tag) (s : State) (h : 3 < band.toNat ∨ 1 < gate.toNat) :
    takeForceDisposition tag band gate s = (s, .bare .badValue) := by
  rcases h with hb | hg
  · simp [takeForceDisposition, readBand_eq_none hb]
  · simp [takeForceDisposition, readGate_eq_none hg]

section
variable {band gate : Byte} {bd : Band} {g : Gate} {tag : Tag} {s : State}

theorem takeForceDisposition_unknownTag (hb : readBand band = some bd) (hg : readGate gate = some g)
    (hc : s.case? tag = none) : takeForceDisposition tag band gate s = (s, .bare .unknownTag) := by
  simp [takeForceDisposition, hb, hg, hc]

theorem takeForceDisposition_wrongState {c : Case} (hb : readBand band = some bd) (hg : readGate gate = some g)
    (hc : s.case? tag = some c) (hq : ¬ ((c.state = .graded ∨ c.state = .placed) ∧ c.finalBand = some .q)) :
    takeForceDisposition tag band gate s = (s, { status := .wrongState, data := .stateBand c.state c.finalBand }) := by
  simp only [takeForceDisposition, hb, hg, hc, if_neg hq]

theorem takeForceDisposition_forces {c : Case} (hb : readBand band = some bd) (hg : readGate gate = some g)
    (hc : s.case? tag = some c) (hq : (c.state = .graded ∨ c.state = .placed) ∧ c.finalBand = some .q) :
    takeForceDisposition tag band gate s = ((s.setCase tag (c.forced bd g)).leaveTote c.location tag, .bare .ok) := by
  simp only [takeForceDisposition, hb, hg, hc, if_pos hq]

end

/-- Settles O9, check by check: each refusal leaves the state as it was, and a case in quarantine is forced and leaves its tote. -/
theorem forceDispositionFreesQuarantinedCase : Obligations.ForceDispositionFreesQuarantinedCase := by
  intro s p num tag band gate hs
  refine ⟨_, exec_forceDisposition hs num tag band gate, ?_⟩
  split
  case isTrue hbad =>
    rw [takeForceDisposition_badValue tag _ hbad]
    exact State.onlyAnswered_setReply _
  case isFalse hok =>
    obtain ⟨bd, hb, hbd⟩ := readBand_eq_some (b := band) (by omega)
    obtain ⟨g, hg, hgt⟩ := readGate_eq_some (b := gate) (by omega)
    split
    case h_1 hc =>
      rw [takeForceDisposition_unknownTag (s := s.serving p num (.forceDisposition tag band gate)) hb hg hc]
      exact State.onlyAnswered_setReply _
    case h_2 c hc =>
      split
      case isTrue hq =>
        rw [takeForceDisposition_forces (s := s.serving p num (.forceDisposition tag band gate)) hb hg hc hq]
        exact ⟨bd, g, hbd, hgt, State.rewrittenOutOfTote_replied .., (State.case?_rewrittenOutOfTote ..).trans (if_pos rfl),
          fun u hu => (State.case?_rewrittenOutOfTote ..).trans (if_neg hu), State.totes_rewrittenOutOfTote ..,
          fun _ _ => State.notice?_rewrittenOutOfTote .., State.sameLinesBut_rewrittenOutOfTote .., State.rewrittenOutOfTote_frame ..⟩
      case isFalse hq =>
        rw [takeForceDisposition_wrongState (s := s.serving p num (.forceDisposition tag band gate)) hb hg hc hq]
        exact State.onlyAnswered_setReply _

end Sys2Proof.Machine
end

section
/-! SUPPORT. Claim Case on a case that waits for its audit: what the case table does by the checks of R31, and the request from its
arrival to its reply. -/

namespace Sys2Proof.Machine

/-- A listening BENCH port's Claim Case in LIVE reaches the case table, whose answer is the reply. -/
theorem exec_claimCase {s : State} {p : Port} (h : s.listens p .bench) (hlive : s.mode = .live) (num : Byte) (tag : Tag) :
    exec (.claimCase p num tag) s = .next
      ((takeClaimCase p tag (s.serving p num (.claimCase tag))).1.setReply p num (.claimCase tag)
        (takeClaimCase p tag (s.serving p num (.claimCase tag))).2) :=
  went_arrive_answered (r := .claimCase tag) h (by decide : 6 ≤ 160) rfl rfl rfl (.inr hlive) rfl

/-- R31, check 2, by the first grade. -/
theorem Case.firstGrader_eq_some_iff (c : Case) (p : Port) :
    c.firstGrade.map (·.grader) = some p ↔ ∃ g, c.firstGrade = some g ∧ g.grader = p :=
  Option.map_eq_some_iff

section
variable {s : State} {p : Port} {tag : Tag} {c : Case}

theorem takeClaimCase_auditWait (hc : s.case? tag = some c) (hw : c.state = .auditWait) :
    takeClaimCase p tag s = claimAudit p tag c s := by
  simp only [takeClaimCase, hc, hw]

theorem claimAudit_notAuditor (ha : s.auditCapable p = false) : claimAudit p tag c s = (s, .bare .notAuditor) :=
  if_pos ha

theorem claimAudit_sameGrader (ha : ¬ s.auditCapable p = false) (hg : c.firstGrade.map (·.grader) = some p) :
    claimAudit p tag c s = (s, .bare .sameGrader) :=
  (if_neg ha).trans (if_pos hg)

theorem claimAudit_takes (ha : ¬ s.auditCapable p = false) (hg : ¬ c.firstGrade.map (·.grader) = some p) :
    claimAudit p tag c s =
      ((s.setCase tag { c.heldBy (s.newHold p) .onAudit with location := .none }).leaveTote c.location tag,
        claimReply .ok c (s.newHold p)) :=
  (if_neg ha).trans (if_neg hg)

end

/-- Settles O13, check by check: a port that may not audit the case leaves the state as it was, and any other takes the case from
its tote into its own hold. -/
theorem auditClaimTakesCaseFromTote : Obligations.AuditClaimTakesCaseFromTote := by
  intro s p num tag c hs hlive hc hw
  refine ⟨_, exec_claimCase hs hlive num tag, ?_⟩
  rw [takeClaimCase_auditWait (s := s.serving p num (.claimCase tag)) hc hw]
  split
  case isTrue hout =>
    rw [claimAudit_notAuditor (s := s.serving p num (.claimCase tag)) hout]
    exact State.onlyAnswered_setReply _
  case isFalse hcapable =>
    split
    case isTrue hgrader =>
      rw [claimAudit_sameGrader (s := s.serving p num (.claimCase tag)) hcapable ((c.firstGrader_eq_some_iff p).mpr hgrader)]
      exact State.onlyAnswered_setReply _
    case isFalse hother =>
      rw [← c.firstGrader_eq_some_iff p] at hother
      rw [claimAudit_takes (s := s.serving p num (.claimCase tag)) hcapable hother]
      exact ⟨State.rewrittenOutOfTote_replied .., (State.case?_rewrittenOutOfTote ..).trans (if_pos rfl),
        fun u hu => (State.case?_rewrittenOutOfTote ..).trans (if_neg hu), State.totes_rewrittenOutOfTote ..,
        fun _ _ => State.notice?_rewrittenOutOfTote .., State.sameLinesBut_rewrittenOutOfTote .., State.rewrittenOutOfTote_frame ..⟩

end Sys2Proof.Machine
end

section
/-! SUPPORT. Condition scoring: the scaled product of an observation, the sums of a list in closed form, the score, the band of a score,
and the fields of a computation's grade. -/

namespace Sys2Proof.Machine

/-! The scaled product of an observation -/

theorem weight_mul_clampSeverity_le {w : Nat} (h : w ≤ 4095) (severity : BitVec 4) : w * clampSeverity severity ≤ 28665 :=
  Nat.mul_le_mul h (Nat.min_le_left 7 severity.toNat)

/-- Settles O19, scale step by scale step, from the bound 4095 · 7 of the product. -/
theorem scaledProductOfAnObservation : Obligations.ScaledProductOfAnObservation := by
  intro k row o hweight
  have hproduct := weight_mul_clampSeverity_le hweight o.severity
  refine ⟨hproduct, by cases k <;> rfl, ?_⟩
  unfold contribution
  cases k with
  | minusTwo => exact Nat.div_le_div_right (c := 4) hproduct
  | minusOne => exact Nat.div_le_div_right (c := 2) hproduct
  | zero => exact hproduct
  | plusOne => exact Nat.mul_le_mul_left 2 hproduct

/-! The sums of a list -/

section
variable (k : ScaleStep) (row : Store WeightEntry)

/-- The scaled products of the observations not skipped, summed without a ceiling (R52, R55). -/
def deductionSum (obs : List Observation) : Nat :=
  ((obs.filter fun o => decide (o.severity ≠ 0)).map (contribution k row)).sum

/-- The same sum over the classes with the wear mark (R56). -/
def wearSum (obs : List Observation) : Nat :=
  ((obs.filter fun o => decide (o.severity ≠ 0) && (weightIn row o.defect.toNat).wear).map (contribution k row)).sum

/-- Some severity is above 7 (R52). -/
def anyClamped (obs : List Observation) : Bool := obs.any fun o => decide (7 < o.severity.toNat)

@[simp] theorem deductionSum_nil : deductionSum k row [] = 0 := rfl
@[simp] theorem wearSum_nil : wearSum k row [] = 0 := rfl
@[simp] theorem anyClamped_nil : anyClamped [] = false := rfl

theorem deductionSum_cons (o : Observation) (obs : List Observation) :
    deductionSum k row (o :: obs) = (if o.severity = 0 then 0 else contribution k row o) + deductionSum k row obs := by
  by_cases h : o.severity = 0#4 <;> simp [deductionSum, h]

theorem wearSum_cons (o : Observation) (obs : List Observation) :
    wearSum k row (o :: obs) =
      (if o.severity = 0 then 0 else if (weightIn row o.defect.toNat).wear then contribution k row o else 0) + wearSum k row obs := by
  by_cases h : o.severity = 0#4
  · simp [wearSum, h]
  · cases hw : (weightIn row o.defect.toNat).wear <;> simp [wearSum, h, hw]

theorem anyClamped_cons (o : Observation) (obs : List Observation) :
    anyClamped (o :: obs) = (decide (7 < o.severity.toNat) || anyClamped obs) := rfl

variable {k row} {obs obs' : List Observation}

theorem deductionSum_perm (h : obs.Perm obs') : deductionSum k row obs = deductionSum k row obs' :=
  ((h.filter _).map _).sum_eq

theorem wearSum_perm (h : obs.Perm obs') : wearSum k row obs = wearSum k row obs' :=
  ((h.filter _).map _).sum_eq

theorem anyClamped_perm (h : obs.Perm obs') : anyClamped obs = anyClamped obs' := h.any_eq

end

section
variable {k : ScaleStep} {row : Store WeightEntry} {y : Tally} {o : Observation}

theorem Tally.observe_of_skipped (h : o.severity = 0) : y.observe k row o = y := if_pos h

theorem Tally.observe_of_counted (h : o.severity ≠ 0) :
    y.observe k row o =
      { deduction := min Config.ceiling (y.deduction + contribution k row o),
        wear := if (weightIn row o.defect.toNat).wear then min Config.ceiling (y.wear + contribution k row o) else y.wear,
        ceilingFlag := y.ceilingFlag || decide (Config.ceiling < y.deduction + contribution k row o),
        clampedFlag := y.clampedFlag || decide (7 < o.severity.toNat) } :=
  if_neg h

theorem Tally.observe_deduction_le (h : y.deduction ≤ Config.ceiling) : (y.observe k row o).deduction ≤ Config.ceiling := by
  by_cases hskip : o.severity = 0
  · rwa [observe_of_skipped hskip]
  · rw [observe_of_counted hskip]
    exact Nat.min_le_left ..

theorem Tally.observe_wear_le (h : y.wear ≤ Config.ceiling) : (y.observe k row o).wear ≤ Config.ceiling := by
  by_cases hskip : o.severity = 0
  · rwa [observe_of_skipped hskip]
  · rw [observe_of_counted hskip]
    cases (weightIn row o.defect.toNat).wear with
    | true => exact Nat.min_le_left ..
    | false => exact h

end

/-- Holding a sum at the ceiling before the next addition does not change where it ends (R55, R56). -/
theorem min_ceiling_add (a p b : Nat) :
    min Config.ceiling (min Config.ceiling (a + p) + b) = min Config.ceiling (a + (p + b)) := by
  omega

/-- CEILING, once set, is right for every sum that follows, and until then the sum has not been cut (R55). -/
theorem ceilingFlag_add (a p b : Nat) :
    (decide (Config.ceiling < a + p) || decide (Config.ceiling < min Config.ceiling (a + p) + b)) =
      decide (Config.ceiling < a + (p + b)) := by
  rw [← Bool.decide_or]
  exact decide_eq_decide.mpr (by omega)

/-- The sums that a list adds to those of `y`, while neither sum of `y` is above the ceiling (R51, R52, R55, R56). -/
theorem foldl_observe (k : ScaleStep) (row : Store WeightEntry) (obs : List Observation) (y : Tally)
    (hd : y.deduction ≤ Config.ceiling) (hw : y.wear ≤ Config.ceiling) :
    obs.foldl (Tally.observe k row) y =
      { deduction := min Config.ceiling (y.deduction + deductionSum k row obs),
        wear := min Config.ceiling (y.wear + wearSum k row obs),
        ceilingFlag := y.ceilingFlag || decide (Config.ceiling < y.deduction + deductionSum k row obs),
        clampedFlag := y.clampedFlag || anyClamped obs } := by
  induction obs generalizing y with
  | nil => simp [Nat.min_eq_right hd, Nat.min_eq_right hw, Nat.not_lt.mpr hd]
  | cons o obs ih =>
    rw [List.foldl_cons, deductionSum_cons, wearSum_cons, anyClamped_cons]
    by_cases hskip : o.severity = 0
    · simp [Tally.observe_of_skipped hskip, hskip, ih y hd hw]
    · rw [ih _ (Tally.observe_deduction_le hd) (Tally.observe_wear_le hw), Tally.observe_of_counted hskip, if_neg hskip, if_neg hskip]
      cases (weightIn row o.defect.toNat).wear <;> simp [min_ceiling_add, ceilingFlag_add, Bool.or_assoc]

/-- The sums and flags of a list in closed form (R51, R52, R55, R56). -/
theorem tallyOf_eq (k : ScaleStep) (row : Store WeightEntry) (obs : List Observation) :
    tallyOf k row obs =
      { deduction := min Config.ceiling (deductionSum k row obs),
        wear := min Config.ceiling (wearSum k row obs),
        ceilingFlag := decide (Config.ceiling < deductionSum k row obs),
        clampedFlag := anyClamped obs } := by
  simp [tallyOf, Tally.zero, foldl_observe]

theorem tallyOf_perm {k : ScaleStep} {row : Store WeightEntry} {obs obs' : List Observation} (h : obs.Perm obs') :
    tallyOf k row obs = tallyOf k row obs' := by
  rw [tallyOf_eq, tallyOf_eq, deductionSum_perm h, wearSum_perm h, anyClamped_perm h]

/-- Settles O20, from the closed form of the sums, each part of which is the same in every order of the list. -/
theorem deductionIsCappedSum : Obligations.DeductionIsCappedSum := by
  intro k row obs
  refine ⟨?_, ?_, ?_, fun obs' h => (tallyOf_perm h).symm⟩ <;> rw [tallyOf_eq]
  · rfl
  · rfl
  · exact Nat.min_le_left ..

/-! The score -/

theorem tallyOf_deduction_le (k : ScaleStep) (row : Store WeightEntry) (obs : List Observation) :
    (tallyOf k row obs).deduction ≤ 65535 := by
  rw [tallyOf_eq]; exact Nat.min_le_left ..

/-- CEILING means that the deduction was cut to the ceiling (R55). -/
theorem tallyOf_deduction_of_ceilingFlag {k : ScaleStep} {row : Store WeightEntry} {obs : List Observation}
    (h : (tallyOf k row obs).ceilingFlag = true) : (tallyOf k row obs).deduction = 65535 := by
  rw [tallyOf_eq] at h ⊢
  exact Nat.min_eq_left (Nat.le_of_lt (of_decide_eq_true h))

theorem pointsOf_le {deduction : Nat} (h : deduction ≤ 65535) : pointsOf deduction ≤ 4096 := by
  unfold pointsOf; omega

theorem scoreOf_of_le {points : Nat} (h : points ≤ 1000) : scoreOf points = 1000 - points := if_pos h

theorem scoreOf_of_gt {points : Nat} (h : 1000 < points) : scoreOf points = 0 := if_neg (Nat.not_le.mpr h)

theorem scoreOf_le (points : Nat) : scoreOf points ≤ 1000 := by
  unfold scoreOf; split <;> omega

/-- Settles O22: the sums are the list's, and the score and FLOOR follow from the points; a deduction cut to the ceiling makes 4096
points. -/
theorem scoreOfAComputation : Obligations.ScoreOfAComputation := by
  intro k late g y points
  have hdeduction : g.deduction ≤ 65535 := tallyOf_deduction_le ..
  refine ⟨rfl, rfl, rfl, rfl, rfl, rfl, hdeduction, pointsOf_le hdeduction, scoreOf_le points,
    fun h => ⟨scoreOf_of_le h, decide_eq_false (Nat.not_lt.mpr h)⟩, fun h => ⟨scoreOf_of_gt h, decide_eq_true h⟩, fun h => ?_⟩
  have hcut : g.deduction = 65535 := tallyOf_deduction_of_ceilingFlag h
  have hpoints : 1000 < points := by simp [points, hcut]
  exact decide_eq_true hpoints

/-! The band of a score -/

section
variable {r : CategoryRecord} {score : Nat}

theorem bandOf_eq_a_iff : bandOf r score = .a ↔ r.tA ≤ score := by
  unfold bandOf; split_ifs <;> simp <;> omega

theorem bandOf_eq_b_iff : bandOf r score = .b ↔ score < r.tA ∧ r.tB ≤ score := by
  unfold bandOf; split_ifs <;> simp <;> omega

theorem bandOf_eq_c_iff : bandOf r score = .c ↔ score < r.tA ∧ score < r.tB ∧ r.tC ≤ score := by
  unfold bandOf; split_ifs <;> simp <;> omega

theorem bandOf_eq_d_iff : bandOf r score = .d ↔ score < r.tA ∧ score < r.tB ∧ score < r.tC := by
  unfold bandOf; split_ifs <;> simp <;> omega

theorem bandOf_ne_q (r : CategoryRecord) (score : Nat) : bandOf r score ≠ .q := by
  unfold bandOf; split_ifs <;> simp

end

theorem category_reset (c : Fin 16) : State.reset.category c = .neutral := rfl

/-- Settles O23: each band from its own range of scores, and a band left out because its range is empty. -/
theorem bandOfAScore : Obligations.BandOfAScore := by
  refine ⟨fun c => by simp [category_reset, CategoryRecord.neutral], fun r score hCB hBA _ => ?_⟩
  simp only [ne_eq, bandOf_eq_a_iff, bandOf_eq_b_iff, bandOf_eq_c_iff, bandOf_eq_d_iff]
  omega

/-! Mismatch, WEAR and the band Q -/

/-- An attribute is in the mismatch set: it is in the mask and the two values differ (R60). -/
theorem mask_and_bne_iff {α : Type} [DecidableEq α] {m : Bool} {x y : α} : (m && x != y) = true ↔ m = true ∧ x ≠ y := by
  rw [Bool.and_eq_true, bne_iff_ne]

theorem noMismatch_iff (m : AttrSet) :
    noMismatch m = true ↔ m = { size := false, colour := false, label := false, material := false, fitted := false } := by
  cases m; simp [noMismatch, and_assoc]

theorem wearFlagOf_iff (limit wear : Nat) : wearFlagOf limit wear = true ↔ 0 < limit ∧ limit ≤ wear := by
  rw [wearFlagOf, Bool.and_eq_true, decide_eq_true_eq, decide_eq_true_eq]

/-- R62: what decides between Q and the score band. -/
theorem grade_band (k : Computation) (late : Bool) :
    (k.grade late).band =
      if ¬ noMismatch (k.grade late).mismatch = true ∨ (k.grade late).wearFlag = true then .q
      else bandOf k.record (k.grade late).score := by
  simp [Computation.grade]

theorem grade_band_eq_q_iff (k : Computation) (late : Bool) :
    (k.grade late).band = .q ↔ ¬ noMismatch (k.grade late).mismatch = true ∨ (k.grade late).wearFlag = true := by
  rw [grade_band]
  split <;> simp_all [bandOf_ne_q]

theorem grade_band_of_ne_q {k : Computation} {late : Bool} (h : (k.grade late).band ≠ .q) :
    (k.grade late).band = bandOf k.record (k.grade late).score := by
  rw [grade_band, if_neg ((grade_band_eq_q_iff k late).not.mp h)]

/-- The score, the sums and CEILING, FLOOR and CLAMPED come from the list, the weights and the scale step alone (R51 to R58). -/
theorem grade_scoring_eq {k k' : Computation} (late : Bool) (hsub : k'.submission = k.submission) (hweights : k'.weights = k.weights)
    (hstep : k'.record.step = k.record.step) :
    let g := k.grade late
    let g' := k'.grade late
    g'.score = g.score ∧ g'.deduction = g.deduction ∧ g'.wear = g.wear ∧ g'.ceilingFlag = g.ceilingFlag ∧
      g'.floorFlag = g.floorFlag ∧ g'.clampedFlag = g.clampedFlag := by
  simp only [Computation.grade, hsub, hweights, hstep, and_self]

/-- Settles O24, attribute by attribute, then WEAR, then the band Q against the score band. -/
theorem mismatchAndWearOverrideTheBand : Obligations.MismatchAndWearOverrideTheBand := by
  intro k late g mask seen
  refine ⟨mask_and_bne_iff, mask_and_bne_iff, mask_and_bne_iff, mask_and_bne_iff, mask_and_bne_iff, wearFlagOf_iff .., ?_,
    grade_band_of_ne_q, fun k' hsub hweights hstep => grade_scoring_eq late hsub hweights hstep⟩
  rw [← noMismatch_iff, Or.comm]
  exact grade_band_eq_q_iff k late

end Sys2Proof.Machine
end

section
/-! SUPPORT. The sampler: its step as a map that keeps XOR, the period of its states, and Reseed Sampler. -/

namespace Sys2Proof.Machine

/-! One step -/

/-- The bit that a step adds (R87). -/
def feedback (x : BitVec 16) : Bool := ((x.getLsbD 15 ^^ x.getLsbD 13) ^^ x.getLsbD 12) ^^ x.getLsbD 10

theorem samplerStep_eq_bit (x : BitVec 16) : samplerStep x = BitVec.ofNat 16 (Nat.bit (feedback x) x.toNat) := by
  rw [Nat.bit_val]; rfl

theorem toNat_bxor (a b : Bool) : (a ^^ b).toNat = (a.toNat + b.toNat) % 2 := by
  cases a <;> cases b <;> rfl

theorem toNat_getLsbD (x : BitVec 16) (i : Nat) : (x.getLsbD i).toNat = x.toNat / 2 ^ i % 2 :=
  Nat.toNat_testBit x.toNat i

/-- The bit added is the parity of bits 15, 13, 12 and 10 (R87). -/
theorem toNat_feedback (x : BitVec 16) :
    (feedback x).toNat = (x.toNat / 32768 + x.toNat / 8192 + x.toNat / 4096 + x.toNat / 1024) % 2 := by
  simp only [feedback, toNat_bxor, toNat_getLsbD]
  omega

theorem toNat_samplerStep (x : BitVec 16) :
    (samplerStep x).toNat =
      (2 * x.toNat + (x.toNat / 32768 + x.toNat / 8192 + x.toNat / 4096 + x.toNat / 1024) % 2) % 65536 := by
  rw [samplerStep_eq_bit, BitVec.toNat_ofNat, Nat.bit_val, toNat_feedback]

/-- Only 0x8000 loses its last mark by the doubling, and its parity is odd. -/
theorem samplerStep_ne_zero {x : BitVec 16} (h : x ≠ 0) : samplerStep x ≠ 0 := by
  have hx : x.toNat ≠ 0 := fun h0 => h (BitVec.eq_of_toNat_eq h0)
  intro h0
  have hstep := toNat_samplerStep x
  rw [h0, show (0 : BitVec 16).toNat = 0 from rfl] at hstep
  have hlt := x.isLt
  omega

theorem iterate_samplerStep_ne_zero {x : BitVec 16} (h : x ≠ 0) (n : Nat) : samplerStep^[n] x ≠ 0 := by
  induction n with
  | zero => exact h
  | succ n ih =>
    rw [Function.iterate_succ_apply']
    exact samplerStep_ne_zero ih

/-! Maps that keep XOR are known by the images of single bits -/

/-- The map is linear over the bits. -/
def KeepsXor (f : BitVec 16 → BitVec 16) : Prop := ∀ x y, f (x ^^^ y) = f x ^^^ f y

theorem KeepsXor.map_zero {f : BitVec 16 → BitVec 16} (hf : KeepsXor f) : f 0 = 0 := by
  simpa using hf 0 0

theorem KeepsXor.iterate {f : BitVec 16 → BitVec 16} (hf : KeepsXor f) (n : Nat) : KeepsXor f^[n] := by
  intro x y
  induction n generalizing x y with
  | zero => rfl
  | succ n ih => rw [Function.iterate_succ_apply, hf, ih]; rfl

theorem feedback_xor (x y : BitVec 16) : feedback (x ^^^ y) = (feedback x ^^ feedback y) := by
  simp only [feedback, BitVec.getLsbD_xor, Bool.xor_assoc, Bool.xor_left_comm, Bool.xor_comm]

theorem getLsbD_zero_samplerStep (x : BitVec 16) : (samplerStep x).getLsbD 0 = feedback x := by
  rw [samplerStep_eq_bit, BitVec.getLsbD_ofNat, Nat.testBit_bit_zero, decide_eq_true (by decide), Bool.true_and]

theorem getLsbD_succ_samplerStep (x : BitVec 16) {i : Nat} (hi : i + 1 < 16) :
    (samplerStep x).getLsbD (i + 1) = x.getLsbD i := by
  rw [samplerStep_eq_bit, BitVec.getLsbD_ofNat, Nat.testBit_bit_succ, decide_eq_true hi, Bool.true_and, BitVec.testBit_toNat]

theorem keepsXor_samplerStep : KeepsXor samplerStep := by
  intro x y
  apply BitVec.eq_of_getLsbD_eq
  intro i hi
  rw [BitVec.getLsbD_xor]
  cases i with
  | zero => simp only [getLsbD_zero_samplerStep, feedback_xor]
  | succ i => simp only [getLsbD_succ_samplerStep _ hi, BitVec.getLsbD_xor]

/-- XOR of the images of the marks of `x` among its low `n` bits. -/
def xorOfMarks (image : Nat → BitVec 16) (x : BitVec 16) : Nat → BitVec 16
  | 0 => 0
  | n + 1 => (if x.getLsbD n then image n else 0) ^^^ xorOfMarks image x n

theorem getLsbD_xorOfMarks_twoPow (x : BitVec 16) {n : Nat} (hn : n ≤ 16) (i : Nat) :
    (xorOfMarks (BitVec.twoPow 16) x n).getLsbD i = (decide (i < n) && x.getLsbD i) := by
  induction n with
  | zero => simp [xorOfMarks]
  | succ n ih =>
    rw [xorOfMarks, BitVec.getLsbD_xor, ih (by omega)]
    obtain hlt | rfl | hgt := Nat.lt_trichotomy i n
    · cases x.getLsbD n <;> simp [BitVec.getLsbD_twoPow, hlt, Nat.lt_succ_of_lt hlt, Nat.ne_of_gt hlt]
    · cases hi : x.getLsbD i <;> simp [BitVec.getLsbD_twoPow]; omega
    · cases x.getLsbD n <;> simp [BitVec.getLsbD_twoPow, Nat.not_lt.mpr hgt.le, Nat.not_lt.mpr (Nat.succ_le_of_lt hgt), Nat.ne_of_lt hgt]

theorem xorOfMarks_twoPow (x : BitVec 16) : xorOfMarks (BitVec.twoPow 16) x 16 = x := by
  apply BitVec.eq_of_getLsbD_eq
  intro i hi
  rw [getLsbD_xorOfMarks_twoPow x (Nat.le_refl 16), decide_eq_true hi, Bool.true_and]

theorem KeepsXor.map_xorOfMarks {f : BitVec 16 → BitVec 16} (hf : KeepsXor f) (image : Nat → BitVec 16) (x : BitVec 16) (n : Nat) :
    f (xorOfMarks image x n) = xorOfMarks (fun i => f (image i)) x n := by
  induction n with
  | zero => exact hf.map_zero
  | succ n ih => rw [xorOfMarks, xorOfMarks, hf, ih, apply_ite f, hf.map_zero]

theorem KeepsXor.eq_xorOfMarks {f : BitVec 16 → BitVec 16} (hf : KeepsXor f) (x : BitVec 16) :
    f x = xorOfMarks (fun i => f (BitVec.twoPow 16 i)) x 16 := by
  conv_lhs => rw [← xorOfMarks_twoPow x]
  exact hf.map_xorOfMarks ..

/-! The period: 65535 is 3 · 5 · 17 · 257 -/

/-- 257 steps at once, from the sixteen states that 257 steps make of the single bits; so a jump of 65535 steps is 255 of these. -/
def stride (x : BitVec 16) : BitVec 16 := xorOfMarks (fun i => samplerStep^[257] (BitVec.twoPow 16 i)) x 16

theorem iterate_stride (n : Nat) : stride^[n] = samplerStep^[257 * n] := by
  have h : stride = samplerStep^[257] := funext fun x => ((keepsXor_samplerStep.iterate 257).eq_xorOfMarks x).symm
  rw [h, Function.iterate_mul]

/-- Four of the five jumps from 1 that its period turns on: the whole of 65535 steps, and without the factor 3, 5 or 17. -/
theorem stride_one : stride^[255] 1 = 1 ∧ stride^[85] 1 ≠ 1 ∧ stride^[51] 1 ≠ 1 ∧ stride^[15] 1 ≠ 1 := by decide +kernel

theorem samplerStep_255_one : samplerStep^[255] 1 ≠ 1 := by decide +kernel

/-- A period that no prime factor can be taken out of is the least. -/
theorem minimalPeriod_eq_of_div_prime {α : Type} {f : α → α} {x : α} {n : Nat} (hx : Function.IsPeriodicPt f n x)
    (hd : ∀ p, p.Prime → p ∣ n → ¬ Function.IsPeriodicPt f (n / p) x) : Function.minimalPeriod f x = n := by
  obtain ⟨a, ha⟩ := hx.minimalPeriod_dvd
  have ha1 : a = 1 := by
    by_contra hne
    have hmul : a.minFac * Function.minimalPeriod f x ∣ n := by
      rw [ha, Nat.mul_comm]
      exact Nat.mul_dvd_mul_left _ a.minFac_dvd
    have hdvd : Function.minimalPeriod f x ∣ n / a.minFac := Nat.dvd_div_of_mul_dvd hmul
    exact hd a.minFac (Nat.minFac_prime hne) (dvd_of_mul_right_dvd hmul) (Function.isPeriodicPt_iff_minimalPeriod_dvd.mpr hdvd)
  rw [ha, ha1, Nat.mul_one]

theorem prime_dvd_65535 {p : Nat} (hp : p.Prime) (h : p ∣ 65535) : p = 3 ∨ p = 5 ∨ p = 17 ∨ p = 257 := by
  have h3 : Nat.Prime 3 := by norm_num
  have h5 : Nat.Prime 5 := by norm_num
  have h17 : Nat.Prime 17 := by norm_num
  have h257 : Nat.Prime 257 := by norm_num
  have hfactors : p ∣ 3 * (5 * (17 * 257)) := h
  rwa [hp.dvd_mul, hp.dvd_mul, hp.dvd_mul, Nat.prime_dvd_prime_iff_eq hp h3, Nat.prime_dvd_prime_iff_eq hp h5,
    Nat.prime_dvd_prime_iff_eq hp h17, Nat.prime_dvd_prime_iff_eq hp h257] at hfactors

theorem minimalPeriod_samplerStep_one : Function.minimalPeriod samplerStep 1 = 65535 := by
  obtain ⟨hwhole, hwithout3, hwithout5, hwithout17⟩ := stride_one
  rw [iterate_stride] at hwhole hwithout3 hwithout5 hwithout17
  refine minimalPeriod_eq_of_div_prime hwhole fun p hp hdvd => ?_
  obtain rfl | rfl | rfl | rfl := prime_dvd_65535 hp hdvd
  · exact hwithout3
  · exact hwithout5
  · exact hwithout17
  · exact samplerStep_255_one

theorem toNat_mem_of_ne_zero {x : BitVec 16} (hx : x ≠ 0) : x.toNat ∈ Finset.Icc 1 65535 := by
  have h0 : x.toNat ≠ 0 := fun h0 => hx (BitVec.eq_of_toNat_eq h0)
  have hlt := x.isLt
  rw [Finset.mem_Icc]
  omega

/-- Within a period of 65535 the orbit has as many states as there are non-zero values, so it holds every one of them. -/
theorem exists_iterate_samplerStep_eq {x y : BitVec 16} (hperiod : Function.minimalPeriod samplerStep x = 65535) (hx : x ≠ 0)
    (hy : y ≠ 0) : ∃ n, n < 65535 ∧ samplerStep^[n] x = y := by
  have hmaps : Set.MapsTo (fun n => (samplerStep^[n] x).toNat) (Finset.range 65535) (Finset.Icc 1 65535) :=
    fun n _ => toNat_mem_of_ne_zero (iterate_samplerStep_ne_zero hx n)
  have hinj : Set.InjOn (fun n => (samplerStep^[n] x).toNat) (Finset.range 65535) := by
    intro m hm n hn hmn
    rw [Finset.coe_range, ← hperiod] at hm hn
    exact Function.iterate_injOn_Iio_minimalPeriod hm hn (BitVec.eq_of_toNat_eq hmn)
  have hcard : (Finset.Icc 1 65535).card ≤ (Finset.range 65535).card := by
    rw [Nat.card_Icc, Finset.card_range]
  obtain ⟨n, hn, hny⟩ := Finset.surjOn_of_injOn_of_card_le _ hmaps hinj hcard (toNat_mem_of_ne_zero hy)
  exact ⟨n, Finset.mem_range.mp hn, BitVec.eq_of_toNat_eq hny⟩

/-- Every non-zero state lies on the orbit of 1 and shares its period. -/
theorem minimalPeriod_samplerStep {x : BitVec 16} (hx : x ≠ 0) : Function.minimalPeriod samplerStep x = 65535 := by
  have hone : (1 : BitVec 16) ∈ Function.periodicPts samplerStep :=
    Function.minimalPeriod_pos_iff_mem_periodicPts.mp (by rw [minimalPeriod_samplerStep_one]; decide)
  obtain ⟨n, _, rfl⟩ := exists_iterate_samplerStep_eq minimalPeriod_samplerStep_one (by decide) hx
  rw [Function.minimalPeriod_apply_iterate hone, minimalPeriod_samplerStep_one]

/-- Settles O27: the step by values, and the rest from the period of every non-zero state. -/
theorem samplerStepVisitsEveryValue : Obligations.SamplerStepVisitsEveryValue := by
  refine ⟨toNat_samplerStep, fun x => samplerStep_ne_zero, by decide,
    fun x y hx hy => exists_iterate_samplerStep_eq (minimalPeriod_samplerStep hx) hx hy, fun x hx => ?_⟩
  have hperiod := minimalPeriod_samplerStep hx
  refine ⟨?_, fun n hpos hlt => ?_⟩
  · rw [← hperiod]
    exact Function.iterate_minimalPeriod
  · exact Function.not_isPeriodicPt_of_pos_of_lt_minimalPeriod hpos.ne' (hperiod ▸ hlt)

/-! Reseed Sampler -/

/-- A listening STOCK port's Reseed Sampler reaches its block, whose answer is the reply. -/
theorem exec_reseedSampler {s : State} {p : Port} (h : s.listens p .stock) (num : Byte) (seed : BitVec 16) :
    exec (.reseedSampler p num seed) s = .next
      ((takeReseedSampler seed (s.serving p num (.reseedSampler seed))).1.setReply p num (.reseedSampler seed)
        (takeReseedSampler seed (s.serving p num (.reseedSampler seed))).2) :=
  went_arrive_answered (r := .reseedSampler seed) h (by decide : 4 ≤ 160) rfl rfl rfl (.inl rfl) rfl

theorem takeReseedSampler_zero (s : State) :
    takeReseedSampler 0 s = (s.withSampler 0x5A3C, { status := .replaced, data := .sampler 0x5A3C }) := rfl

theorem takeReseedSampler_of_ne_zero {seed : BitVec 16} (h : seed ≠ 0) (s : State) :
    takeReseedSampler seed s = (s.withSampler seed, { status := .ok, data := .sampler seed }) := if_neg h

/-- Settles O30, by whether the seed is 0. -/
theorem reseedSamplerReplacesState : Obligations.ReseedSamplerReplacesState := by
  intro s p num seed hs
  refine ⟨_, exec_reseedSampler hs num seed, ?_⟩
  by_cases hzero : seed = 0
  · subst hzero
    rw [takeReseedSampler_zero]
    exact ⟨rfl, fun h => absurd rfl h, fun _ => ⟨rfl, State.answered_setReply (fun _ => rfl) ⟨.replaced, .sampler 0x5A3C⟩⟩⟩
  · rw [takeReseedSampler_of_ne_zero hzero]
    exact ⟨rfl, fun _ => ⟨rfl, State.answered_setReply (fun _ => rfl) ⟨.ok, .sampler seed⟩⟩, fun h => absurd h hzero⟩

end Sys2Proof.Machine
end

section
/-! SUPPORT. The requests that report what stands: Read Clock, Read Tote and Read Errors, and Query Line and Clear Errors, which clear
what they report. -/

namespace Sys2Proof.Machine

section
variable {s : State} {p : Port} {role : Role}

/-! Requests that change nothing -/

/-- A listening port's Read Clock is answered with the calendar and changes nothing else (R147). -/
theorem exec_readClock (h : s.listens p role) (num : Byte) :
    ∃ t, exec (.readClock p num) s = .next t ∧
      s.onlyAnswered t p num .readClock .ok (.clock s.calendar.second s.calendar.minute s.calendar.hour s.calendar.weekday
        s.calendar.day s.calendar.secondCount s.calendar.sweep.isSome) :=
  went_arrive_onlyAnswered (r := .readClock) h (by decide) rfl rfl rfl (.inl rfl) rfl

/-- A listening STOCK port's Read Tote is answered with the record and whether the tote waits, and changes nothing else (R129). -/
theorem exec_readTote (h : s.listens p .stock) (num : Byte) (u : ToteNo) :
    ∃ t, exec (.readTote p num u) s = .next t ∧
      s.onlyAnswered t p num (.readTote u) .ok (.toteRead (s.tote u) (s.tote u).waits) :=
  went_arrive_onlyAnswered (r := .readTote u) h (by decide : 3 ≤ 160) rfl rfl rfl (.inl rfl) rfl

/-- A listening STOCK port's Read Errors is answered with the error capture and changes nothing else (R155). -/
theorem exec_readErrors (h : s.listens p .stock) (num : Byte) :
    ∃ t, exec (.readErrors p num) s = .next t ∧ s.onlyAnswered t p num .readErrors .ok (.errors s.errors) :=
  went_arrive_onlyAnswered (r := .readErrors) h (by decide) rfl rfl rfl (.inl rfl) rfl

/-- R133: a tote waits when it is DRAINING with reserved 0 and a manifest that is not empty. -/
theorem Tote.waits_iff (k : Tote) : k.waits = true ↔ k.state = .draining ∧ k.reserved = 0 ∧ k.manifest ≠ [] := by
  simp [Tote.waits, and_assoc]

/-! Requests that clear what they report -/

theorem takeQueryLine_serving (num : Byte) (r : Request) :
    takeQueryLine p (s.serving p num r) =
      ((s.serving p num r).updPort p fun y => { y with line := .clear },
        { status := .ok, data := .lineStatus (s.port p).line }) := by
  rw [takeQueryLine, State.port_serving_self]

/-- A listening port's Query Line reaches its block, which clears the port's own flags. -/
theorem exec_queryLine (h : s.listens p role) (num : Byte) :
    exec (.queryLine p num) s = .next
      (((s.serving p num .queryLine).updPort p fun y => { y with line := .clear }).setReply p num .queryLine
        { status := .ok, data := .lineStatus (s.port p).line }) :=
  went_arrive_answered (r := .queryLine) h (by decide) rfl rfl rfl (.inl rfl)
    (congrArg ready (takeQueryLine_serving num .queryLine))

/-- A listening STOCK port's Clear Errors reaches its block, which clears the error capture. -/
theorem exec_clearErrors (h : s.listens p .stock) (num : Byte) :
    exec (.clearErrors p num) s = .next
      (((s.serving p num .clearErrors).withErrors .clear).setReply p num .clearErrors
        { status := .ok, data := .errors s.errors }) :=
  went_arrive_answered (r := .clearErrors) h (by decide) rfl rfl rfl (.inl rfl) rfl

/-- The error capture after device reset lists no kind in its summary (R153). -/
theorem ErrorCapture.clear_summary_has (k : ErrorKind) : ErrorCapture.clear.summary.has k = false := by
  cases k <;> rfl

end

/-- Settles O47, request by request: the first three change nothing but the port's slot, Query Line clears the port's own flags, and
Clear Errors the error capture. -/
theorem reportsAnswerWithWhatStands : Obligations.ReportsAnswerWithWhatStands := by
  intro s p role num hs
  refine ⟨exec_readClock hs num, ?readTote, ?readErrors, ?queryLine, ?clearErrors⟩
  case readTote =>
    rintro rfl u
    obtain ⟨t, hexec, hanswered⟩ := exec_readTote hs num u
    exact ⟨t, (s.tote u).waits, hexec, (s.tote u).waits_iff, hanswered⟩
  case readErrors =>
    rintro rfl
    exact exec_readErrors hs num
  case queryLine =>
    refine ⟨_, exec_queryLine hs num, ?replied, ?others, ?own, rfl⟩
    case replied => rw [State.replied, State.port_setReply_self]
    case others =>
      intro q hq
      rw [State.port_setReply_other _ hq, State.port_updPort, if_neg hq, State.port_serving_other hq]
    case own => rw [State.port_setReply_self, State.port_updPort, if_pos rfl, State.port_serving_self]; rfl
  case clearErrors =>
    rintro rfl
    exact ⟨_, exec_clearErrors hs num, State.answered_setReply (fun _ => rfl) ⟨.ok, .errors s.errors⟩, rfl, rfl, rfl,
      ErrorCapture.clear_summary_has, rfl⟩

end Sys2Proof.Machine
end

section
/-! SUPPORT. What a command can do to the state, said once: a chain of elementary changes, of which those to ports and error capture
are called quiet. -/

namespace Sys2Proof.Machine

/-! Quiet changes: to the ports and the error capture alone -/

/-- What a port keeps through every event but a device reset: its role, and with it the rule of R150 and the canonical form of its
notices. -/
structure PortKept (x y : PortState) : Prop where
  role : y.role = x.role
  attn : x.attn = x.attnLevel → y.attn = y.attnLevel
  sorted : x.notices.sorted = true → y.notices.sorted = true

theorem PortKept.refl (x : PortState) : PortKept x x := ⟨rfl, id, id⟩

theorem PortKept.trans {x y z : PortState} (h : PortKept x y) (h' : PortKept y z) : PortKept x z :=
  ⟨h'.role.trans h.role, h'.attn ∘ h.attn, h'.sorted ∘ h.sorted⟩

theorem PortKept.raised (x : PortState) (c : Cause) (d : Detail) : PortKept x (x.raised c d) :=
  ⟨rfl, fun _ => x.attn_raised c d, fun h => Store.sorted_insert h ..⟩

theorem PortKept.cleared (x : PortState) (c : Cause) : PortKept x (x.cleared c) :=
  ⟨rfl, fun _ => x.attn_cleared c, fun h => Store.sorted_erase h ..⟩

theorem PortKept.broken (x : PortState) : PortKept x x.broken := ⟨rfl, fun _ => rfl, fun _ => rfl⟩

/-- At most the ports and the error capture change, the ports keep what they keep, the lock its rule (R153), and a new error record
is of this second (R154). -/
structure Quiet (s t : State) : Prop where
  rest : t = (s.withErrors t.errors).withPorts t.ports
  ports : ∀ q, PortKept (s.port q) (t.port q)
  lock : LockFollows s → LockFollows t
  record : ∀ e, t.errors.record = some e → s.errors.record = some e ∨ e.second = s.secondCount

theorem Quiet.refl (s : State) : Quiet s s := ⟨rfl, fun _ => .refl _, id, fun _ => .inl⟩

theorem Quiet.secondCount {s t : State} (h : Quiet s t) : t.secondCount = s.secondCount := by rw [h.rest]; rfl

theorem Quiet.trans {s t u : State} (h : Quiet s t) (h' : Quiet t u) : Quiet s u where
  rest := by rw [h'.rest, h.rest]; rfl
  ports q := (h.ports q).trans (h'.ports q)
  lock := h'.lock ∘ h.lock
  record e he := (h'.record e he).elim (h.record e) fun hs => .inr (hs.trans h.secondCount)

/-- A quiet change that is made only on some condition. -/
theorem Quiet.thenIf {s t u : State} {c : Prop} [Decidable c] (h : Quiet s t) (h' : Quiet t u) : Quiet s (if c then u else t) := by
  split
  · exact h.trans h'
  · exact h

theorem Quiet.updPorts {s : State} {f : Port → PortState → PortState} (h : ∀ q x, PortKept x (f q x)) : Quiet s (s.updPorts f) :=
  ⟨rfl, fun q => by rw [State.port_updPorts]; exact h q _, id, fun _ => .inl⟩

theorem Quiet.updPort {s : State} {p : Port} {f : PortState → PortState} (h : ∀ x, PortKept x (f x)) : Quiet s (s.updPort p f) :=
  .updPorts fun q x => by
    by_cases hq : q = p
    · simpa [hq] using h x
    · simpa [hq] using PortKept.refl x

theorem Quiet.assembler (s : State) (p : Port) (a : Assembler) : Quiet s (s.updPort p fun x => { x with assembler := a }) :=
  .updPort fun _ => ⟨rfl, id, id⟩

theorem Quiet.service (s : State) (p : Port) (x : Option InService) : Quiet s (s.updPort p fun y => { y with service := x }) :=
  .updPort fun _ => ⟨rfl, id, id⟩

theorem Quiet.waiting (s : State) (p : Port) (x : Option Queued) : Quiet s (s.updPort p fun y => { y with waiting := x }) :=
  .updPort fun _ => ⟨rfl, id, id⟩

theorem Quiet.slots (s : State) (p : Port) (x : Option InService) (w : Option Queued) :
    Quiet s (s.updPort p fun y => { y with service := x, waiting := w }) :=
  .updPort fun _ => ⟨rfl, id, id⟩

theorem Quiet.line (s : State) (p : Port) (l : LineStatus) : Quiet s (s.updPort p fun y => { y with line := l }) :=
  .updPort fun _ => ⟨rfl, id, id⟩

theorem Quiet.mark (s : State) (p : Port) : Quiet s (s.updPort p fun y => { y with inBreak := false }) :=
  .updPort fun _ => ⟨rfl, id, id⟩

theorem Quiet.enabled (s : State) (p : Port) (marks : BitVec 12) :
    Quiet s (s.updPort p fun y => PortState.refreshAttn { y with enabled := marks }) :=
  .updPort fun _ => ⟨rfl, fun _ => rfl, id⟩

theorem Quiet.raise (s : State) (who : Port → PortState → Bool) (c : Cause) (d : Detail) : Quiet s (s.raise who c d) :=
  .updPorts fun q x => by
    split
    · exact .raised x c d
    · exact .refl x

/-- The lock is set with the record, so a capture keeps the rule that it is clear exactly when all is (R153, R154). -/
theorem lockFollows_capture (s : State) (k : ErrorKind) (p : Port) (t : Option Tag) (o : Option ToteNo) :
    LockFollows (s.capture k p t o) := by
  by_cases hl : s.errors.locked = true
  · simp [LockFollows, State.capture_locked s hl, hl]
  · simp [LockFollows, State.capture_unlocked s (by simpa using hl)]

theorem Quiet.capture (s : State) (k : ErrorKind) (p : Port) (t : Option Tag) (o : Option ToteNo) :
    Quiet s (s.capture k p t o) where
  rest := by unfold State.capture; dsimp only; repeat' split
             all_goals rfl
  ports q := by
    rw [State.port_capture]
    split
    · exact .raised ..
    · exact .refl _
  lock _ := lockFollows_capture s k p t o
  record e he := by
    by_cases hl : s.errors.locked = true
    · rw [State.capture_locked s hl] at he
      exact .inl he
    · rw [State.capture_unlocked s (by simpa using hl)] at he
      cases he
      exact .inr rfl

theorem Quiet.clearErrors (s : State) : Quiet s (s.withErrors .clear) :=
  ⟨rfl, fun _ => .refl _, fun _ => ⟨fun _ => ⟨rfl, rfl, rfl⟩, fun _ => rfl⟩, fun _ he => by cases he⟩

theorem Quiet.raiseAuditReady (s : State) (t : Tag) : Quiet s (s.raiseAuditReady t) := .raise ..

theorem Quiet.raiseSwapDone (s : State) (t : ToteNo) : Quiet s (s.raiseSwapDone t) := .raise ..

theorem Quiet.announceReturn (s : State) (t : Tag) (b : CaseState) : Quiet s (s.announceReturn t b) := by
  unfold State.announceReturn
  split
  · exact .raiseAuditReady s t
  · exact .refl s

theorem Quiet.raiseQuarantine (s : State) (t : Tag) (b : Option Band) : Quiet s (s.raiseQuarantine t b) := by
  unfold State.raiseQuarantine
  split
  · exact .raise ..
  · exact .refl s

theorem Quiet.replyGrade (s : State) (p : Port) (r : GradeResult) : Quiet s (s.replyGrade p r) :=
  .updPort fun x => by
    split
    · split
      · exact ⟨rfl, id, id⟩
      · exact .refl x
    · exact .refl x

theorem Quiet.setReply (s : State) (p : Port) (num : Byte) (r : Request) (a : Answer) : Quiet s (s.setReply p num r a) :=
  .updPort fun _ => ⟨rfl, id, id⟩

theorem Quiet.lineFault (s : State) (p : Port) (flag : LineStatus → LineStatus) : Quiet s (s.lineFault p flag) :=
  .updPort fun x => (show PortKept x { x with assembler := .idle, line := flag x.line } from ⟨rfl, id, id⟩).trans (.raised ..)

theorem Quiet.faultEvent (s : State) (p : Port) (flag : LineStatus → LineStatus) : Quiet s (s.faultEvent p flag) := by
  unfold State.faultEvent
  split
  · exact .refl s
  · exact .lineFault ..

theorem Quiet.overrun (s : State) (p : Port) : Quiet s (s.overrun p) := (Quiet.lineFault ..).trans (.capture ..)

/-! Elementary changes -/

/-- A tag out of the tote it is in, without the notice that this may raise. -/
def State.outOfTote (s : State) (loc : Location) (tag : Tag) : State :=
  match loc with
  | .inTote u => s.setTote u ((s.tote u).without tag)
  | _ => s

theorem Quiet.leaveTote (s : State) (loc : Location) (tag : Tag) : Quiet (s.outOfTote loc tag) (s.leaveTote loc tag) := by
  cases loc with
  | none => exact .refl s
  | departed => exact .refl s
  | inTote u =>
    simp only [State.leaveTote, State.removeFromManifest, State.outOfTote]
    split
    · exact .raiseSwapDone ..
    · exact .refl _

/-- A departure without its notice (R132). -/
def State.departed (s : State) (u : ToteNo) : State :=
  ((s.withOutbound (s.outbound ++ [{ tote := u, second := s.secondCount, tags := (s.tote u).manifest }])).withCases
    (markDeparted (s.tote u).manifest s.cases)).setTote u (s.tote u).emptied

theorem Quiet.depart (s : State) (u : ToteNo) : Quiet (s.departed u) (s.depart u) := .raiseSwapDone ..

/-- The grade that a first completion records now (R63, R65). -/
def State.firstGradeNow (s : State) (k : Computation) (c : Case) : GradeRecord :=
  k.grade (lateFlagOf k.record.window s.today c.deliveryDay)

/-- The sampler's step and the case record of a first completion (R64, R65). -/
def State.recordFirst (s : State) (k : Computation) (c : Case) : State :=
  let g := s.firstGradeNow k c
  let sampler := if consultsSampler g.band then samplerStep s.sampler else s.sampler
  (s.withSampler sampler).setCase k.submission.tag
    (c.firstGraded g (consultsSampler g.band && selects sampler k.record.rate))

/-- The case record of an audit completion (R66). -/
def State.recordAudit (s : State) (k : Computation) (c : Case) (first : GradeRecord) : State :=
  s.setCase k.submission.tag (c.auditGraded first (k.grade false) (outcomeOf first (k.grade false) k.record.tolerance))

/-- The engine is free and takes the next submission (R69). -/
def State.nextComputation (s : State) : State := (s.withEngine none).startComputation

/-- One elementary change that a command makes, with what the command has checked before it. -/
inductive Change (i : Instr) (s : State) : State → Prop
  | quiet {t : State} (h : Quiet s t) : Change i s t
  | count (n : Nat) : Change i s (s.withFreeCount n)
  | drop (t : Tag) (c : Case) (hc : s.case? t = some c)
      (hs : c.state = .expected ∨ c.state = .lapsed ∨ c.state = .placed ∧ c.location = .departed) :
      Change i s (s.withCases (s.cases.erase t.toNat))
  | sweep (x : Option (List Tag)) : Change i s (s.withCalendar { s.calendar with sweep := x })
  | lapse (t : Tag) (c : Case) (hc : s.case? t = some c) (hs : c.state = .expected) :
      Change i s (s.setCase t { c with state := .lapsed })
  | force (t : Tag) (c : Case) (bd : Band) (g : Gate) (hc : s.case? t = some c) (hs : c.state = .graded ∨ c.state = .placed)
      (hq : c.finalBand = some .q) : Change i s ((s.setCase t (c.forced bd g)).outOfTote c.location t)
  | weights (category first : Byte) (es : List WeightWrite) (h : weightsBad category first es = false) :
      Change i s (s.withWeights
        (Store.put .empty s.weights category.toNat (writeRun first.toNat es (s.weightRow (toCategory category)))))
  | category (category : Byte) (w : CategoryWrite) (k : ScaleStep) (hc : ¬ 15 < category.toNat) (ht : thresholdsBad w = false) :
      Change i s (s.withCategories (Store.put .neutral s.categories category.toNat (storedRecord k w)))
  | toteMap (es : List MapWrite) : Change i s (s.withToteMap (es.foldl writeMapEntry s.toteMap))
  | writeTote (w : ToteWrite) (h : writeToteCheck w (s.tote w.tote) = none) :
      Change i s (s.setTote w.tote ((s.tote w.tote).written w))
  | takeRecord (r : DepartureRecord) (rest : List DepartureRecord) (h : s.outbound = r :: rest) :
      Change i s (s.withOutbound rest)
  | depart (u : ToteNo) (hd : Canonical s → (s.tote u).state = .draining ∧ (s.tote u).reserved = 0)
      (hl : s.outbound.length < Config.maxRecords) : Change i s (s.departed u)
  | endDrain (u : ToteNo) (hd : (s.tote u).state = .draining) (hr : (s.tote u).reserved = 0) (hf : (s.tote u).filled = 0) :
      Change i s (s.setTote u { s.tote u with state := .opened })
  | clock (w : ClockWrite) (h : clockBad w = false) :
      Change i s (s.withCalendar
        { s.calendar with second := w.second.toNat, minute := w.minute.toNat, hour := w.hour.toNat, weekday := w.weekday.toNat,
                          day := w.day.toNat })
  | sampler (x : BitVec 16) (h : x ≠ 0) : Change i s (s.withSampler x)
  | settings (w : SettingsWrite) : Change i s (s.withSettings (s.storedSettings w))
  | live : Change i s (s.withMode .live)
  | config (h : s.submissions = []) : Change i s (s.withMode .config)
  | clear (h : s.mode = .config) :
      Change i s (((s.withCases .empty).withTotes (s.totes.mapValues Tote.floorCleared)).withOutbound [])
  | claim (p : Port) (t : Tag) (c : Case) (hp : (s.port p).role = .bench) (hc : s.case? t = some c) (hs : c.state = .expected) :
      Change i s (s.setCase t (c.heldBy (s.newHold p) .onBench))
  | renew (p : Port) (t : Tag) (c : Case) (h : Hold) (hp : (s.port p).role = .bench) (hc : s.case? t = some c)
      (hs : c.state = .onBench ∨ c.state = .onAudit) (hh : c.holder = some h) (hq : h.port = p) :
      Change i s (s.setCase t { c with holder := some (s.newHold p) })
  | claimAudit (p : Port) (t : Tag) (c : Case) (hp : (s.port p).role = .bench) (hc : s.case? t = some c)
      (hs : c.state = .auditWait) (hg : ¬ c.firstGrade.map (·.grader) = some p) :
      Change i s ((s.setCase t { c.heldBy (s.newHold p) .onAudit with location := .none }).outOfTote c.location t)
  | submit (p : Port) (t : Tag) (c : Case) (observed : Attributes) (obs : List Observation) (hp : (s.port p).role = .bench)
      (hm : s.mode = .live) (hc : s.case? t = some c) (hh : c.isHeldBy p = true) (hn : s.portHasSubmission p = false)
      (hl : obs.length ≤ 16) : Change i s (s.enqueue p t c observed obs)
  | giveBack (t : Tag) (c : Case) (hc : s.case? t = some c) : Change i s (s.setCase t c.returned)
  | holdLapse (t : Tag) (c : Case) (h : Hold) (hc : s.case? t = some c) (hh : c.holder = some h) :
      Change i s (s.setCase t { c.returned with lastLapsedHolder := some h.port })
  | handBack (t : Tag) (c : Case) (r : Reservation) (o : Option ToteNo) (hc : s.case? t = some c) (hr : c.reservation = some r) :
      Change i s ((s.setTote r.tote (s.tote r.tote).placeBack).setCase t { c.unreserved with lastLapsedTote := o })
  | reserve (t : Tag) (c : Case) (cls : RouteClass) (u : ToteNo) (hc : s.case? t = some c) (hs : c.state = .graded)
      (hcls : c.classCalledFor = some cls) (ha : (s.tote u).available = true) :
      Change i s (s.reserve t c cls u (satAdd s.secondCount s.settings.dwellLimit))
  | place (t : Tag) (c : Case) (r : Reservation) (hc : s.case? t = some c) (hs : c.state = .routed) (hr : c.reservation = some r) :
      Change i s ((s.setTote r.tote ((s.tote r.tote).placed t)).setCase t
        { c with reservation := none, location := .inTote r.tote, state := c.placedState })
  | swap (u : ToteNo) (h : (s.tote u).state = .opened ∨ (s.tote u).state = .full) :
      Change i s (s.setTote u { s.tote u with state := .draining })
  | stopRise (hi : i = .stopRise) : Change i s ((s.withStopped true).withCases (s.cases.mapValues Case.dwellNotDue))
  | stopFall (hi : i = .stopFall) :
      Change i s ((s.withStopped false).withCases
        (s.cases.mapValues fun c => c.rearmed (satAdd s.secondCount s.settings.dwellLimit)))
  | advance (hi : i = .secondEvent ∨ i = .midnightRollover) : Change i s (s.withCalendar s.calendar.advance)
  | mark (n : Nat) (b : Bool) : Change i s (s.withCases (s.cases.mapValues (Case.markDue n b)))
  | start : Change i s s.startComputation
  | completeFirst (k : Computation) (c : Case) (he : s.engine = some k) (hk : k.submission.kind = .first)
      (hc : s.case? k.submission.tag = some c) : Change i s (s.recordFirst k c).nextComputation
  | completeAudit (k : Computation) (c : Case) (first : GradeRecord) (he : s.engine = some k) (hk : k.submission.kind = .audit)
      (hc : s.case? k.submission.tag = some c) (hf : c.firstGrade = some first) :
      Change i s (s.recordAudit k c first).nextComputation
  | reset (roles : BitVec 16) (rate : BitVec 2) (stop : Bool) (hi : i = .deviceReset roles rate stop) :
      Change i s (((State.afterReset roles rate stop).withFreeCount s.freeCount).withPending s.pending)

/-- The two changes that a command makes alone, and only once: a case joins the table, or a LAPSED one is EXPECTED again. -/
inductive Arrival (s : State) : State → Prop
  | opens (a : Announcement) (ha : announcementBad a = false) (hc : s.case? a.tag = none) (hl : s.cases.size < Config.maxCases) :
      Arrival s (s.setCase a.tag (.opened a s.today))
  | revives (t : Tag) (c : Case) (hc : s.case? t = some c) (hs : c.state = .lapsed) :
      Arrival s (s.setCase t { c with state := .expected, openedDay := s.today })

/-- A run of elementary changes. -/
abbrev Chain (i : Instr) : State → State → Prop := Relation.ReflTransGen (Change i)

section
variable {i : Instr} {s t u : State}

theorem Chain.quiet (h : Quiet s t) : Chain i s t := .single (.quiet h)

theorem Chain.one (h : Change i s t) (h' : Quiet t u) : Chain i s u := (Relation.ReflTransGen.single h).trans (Chain.quiet h')

/-- What every elementary change keeps, a chain keeps. -/
theorem Chain.keeps {P : State → Prop} (h : Chain i s t) (hstep : ∀ u v, Change i u v → P u → P v) (hs : P s) : P t := by
  induction h with
  | refl => exact hs
  | tail _ hc ih => exact hstep _ _ hc ih

end

/-- What a command can do: a chain of elementary changes, or one arrival among quiet changes. -/
def Does (i : Instr) (s t : State) : Prop := Chain i s t ∨ ∃ u v, Quiet s u ∧ Arrival u v ∧ Quiet v t

section
variable {i : Instr} {s t u : State}

theorem Does.quiet (h : Quiet s t) : Does i s t := .inl (.quiet h)

theorem Does.chain (h : Chain i s t) : Does i s t := .inl h

theorem Does.arrival (h : Arrival s t) : Does i s t := .inr ⟨s, t, .refl s, h, .refl t⟩

theorem Does.before (h : Quiet s t) : Does i t u → Does i s u
  | .inl hc => .inl ((Chain.quiet h).trans hc)
  | .inr ⟨x, y, hx, ha, hy⟩ => .inr ⟨x, y, h.trans hx, ha, hy⟩

theorem Does.after (h : Does i s t) (h' : Quiet t u) : Does i s u :=
  match h with
  | .inl hc => .inl (hc.trans (Chain.quiet h'))
  | .inr ⟨x, y, hx, ha, hy⟩ => .inr ⟨x, y, hx, ha, hy.trans h'⟩

end

end Sys2Proof.Machine
end

section
/-! SUPPORT. Every command does what `Does` says: the shared operations, the blocks that take a request, the ports, the events. -/

namespace Sys2Proof.Machine

/-! A sorted store lists what it finds -/

theorem findIn_of_mem {ν : Type} {e : Nat × ν} :
    ∀ {l : List (Nat × ν)} {lo : Nat}, risingFrom lo l = true → e ∈ l → lo ≤ e.1 ∧ findIn e.1 l = some e.2
  | a :: r, lo, h, he => by
    simp only [risingFrom, Bool.and_eq_true, decide_eq_true_eq] at h
    rcases List.mem_cons.mp he with rfl | he
    · simp [findIn, h.1]
    · obtain ⟨hlo, hf⟩ := findIn_of_mem h.2 he
      exact ⟨by omega, by rw [findIn, if_neg (by omega), hf]⟩

theorem mem_of_findIn_eq {ν : Type} {k : Nat} {v : ν} : ∀ {l : List (Nat × ν)}, findIn k l = some v → (k, v) ∈ l
  | [], h => by simp [findIn] at h
  | a :: r, h => by
    unfold findIn at h
    split at h
    next hk => cases h; exact List.mem_cons.mpr (.inl (by rw [← hk]))
    next => exact List.mem_cons_of_mem a (mem_of_findIn_eq h)

theorem Store.find?_of_mem {ν : Type} {m : Store ν} {e : Nat × ν} (h : m.sorted = true) (he : e ∈ m.entries) :
    m.find? e.1 = some e.2 := (findIn_of_mem h he).2

theorem Store.mem_of_find? {ν : Type} {m : Store ν} {k : Nat} {v : ν} (h : m.find? k = some v) : (k, v) ∈ m.entries :=
  mem_of_findIn_eq h

theorem Store.sorted_of_lists {ν : Type} [DecidableEq ν] {d : ν} {m : Store ν} (h : m.lists d = true) : m.sorted = true := by
  rw [Store.lists, Bool.and_eq_true] at h
  exact h.1

section
variable {i : Instr} {s : State}

/-! The shared operations -/

theorem Chain.sweepGoesOn (s : State) (set : List Tag) : Chain i s (s.sweepGoesOn set) := by
  unfold State.sweepGoesOn
  split
  · exact .one (.sweep none) (.raise ..)
  · exact .single (.sweep (some set))

theorem Chain.leaveSweep (s : State) (t : Tag) : Chain i s (s.leaveSweep t) := by
  unfold State.leaveSweep
  split
  · exact .refl
  · split
    · exact .sweepGoesOn ..
    · exact .refl

theorem Chain.completeDrain {u : ToteNo} (hd : (s.tote u).state = .draining) (hr : (s.tote u).reserved = 0) :
    Chain i s (s.completeDrain u) := by
  obtain ⟨hf, h⟩ | ⟨-, hl, h⟩ | ⟨-, -, h⟩ := s.completeDrain_cases u <;> rw [h]
  · exact Chain.one (.endDrain u hd hr hf) (.raiseSwapDone ..)
  · exact Chain.one (.depart u (fun _ => ⟨hd, hr⟩) hl) (.depart ..)

theorem Chain.drainIfDone (s : State) (u : ToteNo) : Chain i s (s.drainIfDone u) := by
  by_cases h : (s.tote u).state = .draining ∧ (s.tote u).reserved = 0
  · rw [State.drainIfDone_done h]
    exact .completeDrain h.1 h.2
  · rw [State.drainIfDone_waits h]

theorem Chain.releaseHold (s : State) (t : Tag) : Chain i s (s.releaseHold t) := by
  unfold State.releaseHold
  split
  next c hc => exact .one (.giveBack t c hc) (.announceReturn ..)
  next => exact .refl

theorem Chain.takeHoldLapse (s : State) (t : Tag) : Chain i s (s.takeHoldLapse t) := by
  unfold State.takeHoldLapse
  split
  next c hc =>
    split
    next h hh =>
      split
      · exact .one (.holdLapse t c h hc hh) ((Quiet.announceReturn ..).trans ((Quiet.capture ..).trans (.raise ..)))
      · exact .refl
    next => exact .refl
  next => exact .refl

theorem Chain.takeDwellLapse (s : State) (t : Tag) : Chain i s (s.takeDwellLapse t) := by
  unfold State.takeDwellLapse
  split
  next c hc =>
    split
    next r hr =>
      split
      · exact (Chain.one (.handBack t c r (some r.tote) hc hr) (.raise ..)).trans (Chain.drainIfDone ..)
      · exact .refl
    next => exact .refl
  next => exact .refl

theorem Chain.inFreeOrder {act : Tag → State → State} (h : ∀ t u, Chain i u (act t u)) (n : Nat) (l : List Tag) (s : State) :
    Chain i s (inFreeOrder act n l s) := by
  induction n generalizing l s with
  | zero => exact .refl
  | succ n ih =>
    match l with
    | [] => exact .refl
    | [t] => exact h t s
    | a :: b :: l =>
      simp only [Sys2Proof.Machine.inFreeOrder]
      split
      · exact ((Relation.ReflTransGen.single (.count _)).trans (h _ _)).trans (ih ..)
      · exact .refl

theorem Chain.releaseHoldsOf (s : State) (p : Port) : Chain i s (s.releaseHoldsOf p) :=
  .inFreeOrder (fun t u => .releaseHold u t) ..

theorem Chain.settleLapses (s : State) : Chain i s s.settleLapses :=
  .inFreeOrder (fun t u => (Chain.takeHoldLapse u t).trans (Chain.takeDwellLapse ..)) ..

/-- The tote that a free place goes to waits for it (R136). -/
theorem State.waits_of_firstWaiting {u : ToteNo} (hs : Canonical s) (h : s.firstWaiting = some u) : (s.tote u).waits = true := by
  obtain ⟨-, -, hsorted, hkeys, -⟩ := hs
  simp only [State.firstWaiting, Option.map_eq_some_iff] at h
  obtain ⟨e, he, rfl⟩ := h
  have hmem := List.mem_of_find?_eq_some he
  rw [State.tote, Store.get, BitVec.toNat_ofNat, Nat.mod_eq_of_lt (hkeys e hmem), Store.find?_of_mem (Store.sorted_of_lists hsorted) hmem]
  simpa using List.find?_some he

theorem Chain.handPlace (s : State) : Chain i s s.handPlace := by
  unfold State.handPlace
  split
  next hl =>
    split
    next u hu =>
      have hd (h : Canonical s) : (s.tote u).state = .draining ∧ (s.tote u).reserved = 0 := by
        obtain ⟨hd, hr, -⟩ := (Tote.waits_iff _).mp (State.waits_of_firstWaiting h hu)
        exact ⟨hd, hr⟩
      exact Chain.one (.depart u hd hl) (.depart ..)
    next => exact .refl
  next => exact .refl

theorem Chain.tick (hi : i = .secondEvent ∨ i = .midnightRollover) (s : State) : Chain i s s.tick := by
  have h := (Chain.settleLapses (i := i) s).tail (.advance hi)
  unfold State.tick
  dsimp only
  split
  · exact (h.tail (.mark ..)).trans (Chain.sweepGoesOn ..)
  · exact h.tail (.mark ..)

theorem Chain.visit (s : State) (t : Tag) : Chain i s (s.visit t) := by
  unfold State.visit
  split
  · exact .refl
  · split
    · refine Relation.ReflTransGen.trans ?_ (Chain.leaveSweep ..)
      split
      next c hc =>
        split
        next ho =>
          have hs : c.state = .expected := by simp [Case.overdue] at ho; exact ho.1.1
          exact Chain.one (.lapse t c hc hs) (.raise ..)
        next => exact .refl
      next => exact .refl
    · exact .refl

theorem Does.removeCase {t : Tag} {c : Case} (hc : s.case? t = some c)
    (hs : c.state = .expected ∨ c.state = .lapsed ∨ c.state = .placed ∧ c.location = .departed) : Does i s (s.removeCase t) :=
  .chain ((Relation.ReflTransGen.single (.drop t c hc hs)).trans (Chain.leaveSweep ..))

/-! The start and the end of a computation -/

theorem State.startComputation_cases (s : State) :
    s.startComputation = s ∨ ∃ x rest c, s.engine = none ∧ s.gradingQueue = x :: rest ∧ s.case? x.tag = some c ∧
      s.startComputation = (s.withGradingQueue rest).withEngine
        (some { submission := x, category := c.category, declared := c.declared, record := s.category c.category,
                weights := s.weightRow c.category }) := by
  unfold State.startComputation
  split
  next x rest he hq =>
    cases hc : s.case? x.tag with
    | none => exact .inl rfl
    | some c => exact .inr ⟨x, rest, c, he, hq, hc, rfl⟩
  next => exact .inl rfl

theorem State.startComputation_withErrors_withPorts (s : State) (e : ErrorCapture) (v : Vector PortState 8) :
    ((s.withErrors e).withPorts v).startComputation = (s.startComputation.withErrors e).withPorts v := by
  unfold State.startComputation
  dsimp only [State.withPorts_engine, State.withPorts_gradingQueue, State.withErrors_engine, State.withErrors_gradingQueue]
  split
  · dsimp only [State.case?_withPorts, State.case?_withErrors]
    split <;> rfl
  · rfl

theorem State.ports_startComputation (s : State) : s.startComputation.ports = s.ports := by
  obtain h | ⟨x, rest, c, -, -, -, h⟩ := s.startComputation_cases <;> rw [h]
  rfl

theorem State.errors_startComputation (s : State) : s.startComputation.errors = s.errors := by
  obtain h | ⟨x, rest, c, -, -, -, h⟩ := s.startComputation_cases <;> rw [h]
  rfl

theorem State.calendar_startComputation (s : State) : s.startComputation.calendar = s.calendar := by
  obtain h | ⟨x, rest, c, -, -, -, h⟩ := s.startComputation_cases <;> rw [h]
  rfl

/-- The start of the next computation does not look at the ports or the error capture. -/
theorem Quiet.nextComputation {t : State} (h : Quiet s t) : Quiet s.nextComputation t.nextComputation where
  rest := by
    have ht : t.withEngine none = ((s.withEngine none).withErrors t.errors).withPorts t.ports := by
      conv_lhs => rw [h.rest]
      rfl
    rw [State.nextComputation, ht, State.startComputation_withErrors_withPorts]
    rfl
  ports q := by
    simpa only [State.nextComputation, State.port, State.ports_startComputation, State.withEngine_ports] using h.ports q
  lock := by
    simpa only [State.nextComputation, LockFollows, State.errors_startComputation, State.withEngine_errors] using h.lock
  record := by
    simpa only [State.nextComputation, State.secondCount, State.errors_startComputation, State.calendar_startComputation,
      State.withEngine_errors, State.withEngine_calendar] using h.record

theorem Chain.completeFirst {k : Computation} (he : s.engine = some k) (hk : k.submission.kind = .first) :
    Chain i s (s.completeFirst k) := by
  unfold State.completeFirst
  dsimp only
  split
  next => exact .refl
  next c hc =>
    exact Chain.one (.completeFirst k c he hk hc) ((Quiet.raiseQuarantine ..).trans (.replyGrade ..)).nextComputation

theorem Chain.completeAudit {k : Computation} (he : s.engine = some k) (hk : k.submission.kind = .audit) :
    Chain i s (s.completeAudit k) := by
  unfold State.completeAudit
  dsimp only
  split
  next => exact .refl
  next c hc =>
    split
    next => exact .refl
    next first hf =>
      refine Chain.one (.completeAudit k c first he hk hc hf) (Quiet.nextComputation ?_)
      exact (((Quiet.refl _).thenIf (.raise ..)).trans (.raiseQuarantine ..)).trans (.replyGrade ..)

/-! The blocks -/

theorem does_takeExpectReturn (a : Announcement) : Does i s (takeExpectReturn a s).1 := by
  unfold takeExpectReturn
  split
  · exact .quiet (.refl s)
  · split
    · exact .quiet (.refl s)
    · split
      · exact .quiet (.refl s)
      · exact .arrival (.opens a (Bool.of_not_eq_true ‹_›) ‹_› (by omega))

theorem does_takeCancelReturn (t : Tag) : Does i s (takeCancelReturn t s).1 := by
  unfold takeCancelReturn
  split
  next => exact .quiet (.refl s)
  next c hc =>
    split
    next hs => exact .removeCase hc (hs.imp_right .inl)
    next => exact .quiet (.refl s)

theorem does_takeReviveCase (t : Tag) : Does i s (takeReviveCase t s).1 := by
  unfold takeReviveCase
  split
  next => exact .quiet (.refl s)
  next c hc =>
    split
    next hs => exact .arrival (.revives t c hc hs)
    next => exact .quiet (.refl s)

theorem takeFetchCase_fst (p : Port) (t : Tag) : (takeFetchCase p t s).1 = s := by
  unfold takeFetchCase
  split <;> rfl

theorem does_takeCloseCase (t : Tag) : Does i s (takeCloseCase t s).1 := by
  unfold takeCloseCase
  split
  next => exact .quiet (.refl s)
  next c hc =>
    split
    next hs => exact .removeCase hc (.inr hs)
    next => exact .quiet (.refl s)

theorem does_takeForceDisposition (t : Tag) (band gate : Byte) : Does i s (takeForceDisposition t band gate s).1 := by
  unfold takeForceDisposition
  split
  next bd g _ _ =>
    split
    next => exact .quiet (.refl s)
    next c hc =>
      split
      next h => exact .chain (Chain.one (.force t c bd g hc h.1 h.2) (.leaveTote ..))
      next => exact .quiet (.refl s)
  next => exact .quiet (.refl s)

theorem does_takeWriteWeights (category first : Byte) (es : List WeightWrite) :
    Does i s (takeWriteWeights category first es s).1 := by
  unfold takeWriteWeights
  split
  · exact .quiet (.refl s)
  · split
    · exact .quiet (.refl s)
    · exact .chain (.single (.weights category first es (Bool.of_not_eq_true ‹_›)))

theorem does_takeWriteCategory (category : Byte) (w : CategoryWrite) : Does i s (takeWriteCategory category w s).1 := by
  unfold takeWriteCategory
  split
  · exact .quiet (.refl s)
  · split
    · exact .quiet (.refl s)
    · split
      · exact .quiet (.refl s)
      · split
        · exact .quiet (.refl s)
        · exact .chain (.single (.category category w _ ‹_› (Bool.of_not_eq_true ‹_›)))

theorem does_takeWriteToteMap (es : List MapWrite) : Does i s (takeWriteToteMap es s).1 := by
  unfold takeWriteToteMap
  split
  · exact .quiet (.refl s)
  · exact .chain (.single (.toteMap es))

theorem does_takeWriteTote (w : ToteWrite) : Does i s (takeWriteTote w s).1 := by
  unfold takeWriteTote
  dsimp only
  split
  next => exact .quiet (.refl s)
  next h =>
    exact .chain (Chain.one (.writeTote w h) ((Quiet.refl _).thenIf (.raise ..)))

theorem does_takeTakeManifest : Does i s (takeTakeManifest s).1 := by
  unfold takeTakeManifest
  split
  next => exact .quiet (.refl s)
  next r rest h => exact .chain ((Relation.ReflTransGen.single (.takeRecord r rest h)).trans (Chain.handPlace _))

theorem does_takeSetClock (w : ClockWrite) : Does i s (takeSetClock w s).1 := by
  unfold takeSetClock
  split
  · exact .quiet (.refl s)
  · split
    · exact .quiet (.refl s)
    · exact .chain (.single (.clock w (Bool.of_not_eq_true ‹_›)))

theorem does_takeReseedSampler (seed : BitVec 16) : Does i s (takeReseedSampler seed s).1 := by
  unfold takeReseedSampler
  split
  · exact .chain (.single (.sampler _ (by decide)))
  · exact .chain (.single (.sampler _ ‹_›))

theorem does_takeGoConfig : Does i s (takeGoConfig s).1 := by
  unfold takeGoConfig
  split
  · exact .chain (.single (.config (List.isEmpty_iff.mp ‹_›)))
  · exact .quiet (.refl s)

theorem does_takeClearFloor : Does i s (takeClearFloor s).1 := by
  unfold takeClearFloor
  split
  · exact .quiet (.refl s)
  next hm =>
    split
    · exact .quiet (.refl s)
    · exact .chain (.single (.clear (by cases h : s.mode <;> simp_all)))

theorem does_takeQueryNotice (p : Port) : Does i s (takeQueryNotice p s).1 := by
  unfold takeQueryNotice
  dsimp only
  split
  · exact .quiet (.updPort fun x => .cleared x _)
  · exact .quiet (.refl s)

theorem does_claimHeld {p : Port} {t : Tag} {c : Case} (hp : (s.port p).role = .bench) (hc : s.case? t = some c)
    (hs : c.state = .onBench ∨ c.state = .onAudit) : Does i s (claimHeld p t c s).1 := by
  unfold claimHeld
  split
  next h hh =>
    split
    next hq => exact .chain (.single (.renew p t c h hp hc hs hh hq))
    next => exact .quiet (.refl s)
  next => exact .quiet (.refl s)

theorem does_claimAudit {p : Port} {t : Tag} {c : Case} (hp : (s.port p).role = .bench) (hc : s.case? t = some c)
    (hs : c.state = .auditWait) : Does i s (claimAudit p t c s).1 := by
  unfold claimAudit
  split
  · exact .quiet (.refl s)
  · split
    · exact .quiet (.refl s)
    · exact .chain (Chain.one (.claimAudit p t c hp hc hs ‹_›) (.leaveTote ..))

theorem does_takeClaimCase {p : Port} (t : Tag) (hp : (s.port p).role = .bench) : Does i s (takeClaimCase p t s).1 := by
  unfold takeClaimCase
  split
  next => exact .quiet (.refl s)
  next c hc =>
    split
    next hs => exact .chain (.single (.claim p t c hp hc hs))
    next hs => exact does_claimHeld hp hc (.inl hs)
    next hs => exact does_claimHeld hp hc (.inr hs)
    next hs => exact does_claimAudit hp hc hs
    all_goals exact .quiet (.refl s)

theorem does_takeReleaseCase (p : Port) (t : Tag) : Does i s (takeReleaseCase p t s).1 := by
  unfold takeReleaseCase
  split
  · exact .quiet (.refl s)
  · split
    · exact .chain (.releaseHold s t)
    · exact .quiet (.refl s)

theorem does_takeSubmitGrade {p : Port} (t : Tag) (observed : Attributes) {obs : List Observation} (hp : (s.port p).role = .bench)
    (hm : s.mode = .live) (hl : obs.length ≤ 16) : Does i s (takeSubmitGrade p t observed obs s).1 := by
  unfold takeSubmitGrade
  split
  next => exact .quiet (.refl s)
  next c hc =>
    split
    next hh =>
      split
      · exact .quiet (.refl s)
      · exact .chain (.single (.submit p t c observed obs hp hm hc hh (Bool.of_not_eq_true ‹_›) hl))
    next =>
      split
      · exact .quiet (.refl s)
      · exact .quiet (.refl s)

/-- The overflow walk ends only in an available tote (R105). -/
theorem available_of_walk {totes : ToteNo → Tote} {n : Nat} {t u : ToteNo} (h : walk totes n t = some u) :
    (totes u).available = true := by
  induction n generalizing t with
  | zero => cases h
  | succ n ih =>
    unfold walk at h
    split at h
    · cases h
    · split at h
      next ha => cases h; exact ha
      next =>
        split at h
        · cases h
        · exact ih h

theorem does_routeGraded (p : Port) {t : Tag} {c : Case} {cls : RouteClass} (hc : s.case? t = some c) (hs : c.state = .graded)
    (hcls : c.classCalledFor = some cls) : Does i s (routeGraded p t c cls s).1 := by
  unfold routeGraded
  split
  · exact .quiet (.capture ..)
  · split
    · exact .quiet (.capture ..)
    · split
      next => exact .quiet (.refl s)
      next u hw => exact .chain (.single (.reserve t c cls u hc hs hcls (available_of_walk hw)))

theorem does_takeRouteQuery (p : Port) (t : Tag) : Does i s (takeRouteQuery p t s).1 := by
  unfold takeRouteQuery
  split
  · exact .quiet (.refl s)
  · split
    next => exact .quiet (.refl s)
    next c hc =>
      split
      · exact .quiet (.refl s)
      next hs hcls => exact does_routeGraded p hc hs hcls
      · exact .quiet (.refl s)

theorem Chain.place {t : Tag} {c : Case} {r : Reservation} (hc : s.case? t = some c) (hs : c.state = .routed)
    (hr : c.reservation = some r) : Chain i s (s.place t c r.tote) := by
  unfold State.place
  exact (Chain.one (.place t c r hc hs hr) (((Quiet.refl _).thenIf (.raiseAuditReady ..)).thenIf (.raise ..))).trans
    (Chain.drainIfDone ..)

theorem does_takeConfirmPlacement (p : Port) (t : Tag) (u : ToteNo) : Does i s (takeConfirmPlacement p t u s).1 := by
  unfold takeConfirmPlacement
  split
  next => exact .quiet (.refl s)
  next c hc =>
    split
    next r hs hr =>
      split
      next hu => subst hu; exact .chain (.place hc hs hr)
      next => exact .quiet (.capture ..)
    next =>
      split
      · exact .quiet (.capture ..)
      · exact .quiet (.refl s)
    next => exact .quiet (.refl s)

theorem does_takeCancelRoute (t : Tag) : Does i s (takeCancelRoute t s).1 := by
  unfold takeCancelRoute
  split
  next => exact .quiet (.refl s)
  next c hc =>
    split
    next r _ hr =>
      exact .chain ((Relation.ReflTransGen.single (.handBack t c r c.lastLapsedTote hc hr)).trans (Chain.drainIfDone ..))
    next => exact .quiet (.refl s)

theorem does_takeToteSwap (u : ToteNo) : Does i s (takeToteSwap u s).1 := by
  unfold takeToteSwap
  dsimp only
  split
  · exact .quiet (.refl s)
  · exact .quiet (.refl s)
  next hu hd =>
    refine .chain ((Relation.ReflTransGen.single (.swap u ?_)).trans (Chain.drainIfDone ..))
    cases h : (s.tote u).state <;> simp_all

/-! The ports -/

/-- What a request that passes the checks of R165 and R168 has passed. -/
theorem passed_of_portCheck {role : Role} {mode : Mode} {r : Request} (h : portCheck role mode r = none) :
    roleAllows role r.kind = true ∧ r.lengthFits = true ∧ (needsLive r.kind = true → mode = .live) := by
  unfold portCheck at h
  split_ifs at h with h1 h2 h3 h4
  refine ⟨by simpa using h2, by simpa using h3, fun hn => ?_⟩
  cases mode with
  | live => rfl
  | config => exact absurd ⟨hn, rfl⟩ h4

theorem role_bench_of_allows {role : Role} {k : Byte} (hk : 25 ≤ k.toNat ∧ k.toNat ≤ 27) (h : roleAllows role k = true) :
    role = .bench := by
  cases role with
  | bench => rfl
  | _ => simp [roleAllows] at h; omega

theorem does_takeRequest {p : Port} {r : Request} (h : portCheck (s.port p).role s.mode r = none) :
    Does i s (takeRequest p r s).1 := by
  obtain ⟨hr, hl, hm⟩ := passed_of_portCheck h
  cases r with
  | fetchCase t => exact .quiet (takeFetchCase_fst p t ▸ .refl s)
  | queryNotice => exact does_takeQueryNotice p
  | setNoticeMask m => exact .quiet (.enabled s p m)
  | queryLine => exact .quiet (.line s p .clear)
  | expectReturn a => exact does_takeExpectReturn a
  | cancelReturn t => exact does_takeCancelReturn t
  | reviveCase t => exact does_takeReviveCase t
  | closeCase t => exact does_takeCloseCase t
  | forceDisposition t bd g => exact does_takeForceDisposition t bd g
  | writeWeights c f es => exact does_takeWriteWeights c f es
  | writeCategory c w => exact does_takeWriteCategory c w
  | writeToteMap es => exact does_takeWriteToteMap es
  | writeTote w => exact does_takeWriteTote w
  | takeManifest => exact does_takeTakeManifest
  | setClock w => exact does_takeSetClock w
  | reseedSampler x => exact does_takeReseedSampler x
  | clearErrors => exact .quiet (.clearErrors s)
  | writeSettings w => exact .chain (.single (.settings w))
  | goLive => exact .chain (.single .live)
  | goConfig => exact does_takeGoConfig
  | clearFloor => exact does_takeClearFloor
  | claimCase t => exact does_takeClaimCase t (role_bench_of_allows (k := 25) (by decide) hr)
  | submitGrade t a obs =>
    exact does_takeSubmitGrade t a (role_bench_of_allows (k := 26) (by decide) hr) (hm rfl) (by simpa [Request.lengthFits] using hl)
  | releaseCase t => exact does_takeReleaseCase p t
  | routeQuery t => exact does_takeRouteQuery p t
  | confirmPlacement t n => exact does_takeConfirmPlacement p t n
  | cancelRoute t => exact does_takeCancelRoute t
  | toteSwap t => exact does_takeToteSwap t
  | readClock | readTote | readErrors | unknownKind | wrongLength => exact .quiet (.refl s)

theorem does_answerRequest (p : Port) (r : Request) : Does i s (answerRequest p r s).1 := by
  unfold answerRequest
  split
  · exact .quiet (.refl s)
  · exact does_takeRequest ‹_›

/-- The only request that is taken without an answer is Submit Grade, and it leaves the ports (R68). -/
theorem ports_answerRequest_of_none {p : Port} {r : Request} {t : State} (h : answerRequest p r s = (t, none)) : t.ports = s.ports := by
  unfold answerRequest at h
  split at h
  · cases h
  · cases r with
    | submitGrade tag a obs =>
      unfold takeRequest takeSubmitGrade at h
      dsimp only at h
      repeat' split at h
      all_goals cases h
      exact State.ports_startComputation _
    | _ => simp [takeRequest, ready] at h

/-- A request handed on does what its block does, and is then in the service slot. -/
theorem does_handOn (p : Port) (num : Byte) (r : Request) :
    Does i s (s.handOn p num r) ∧ ((s.handOn p num r).port p).service ≠ none := by
  have hq : Quiet s (s.updPort p fun x => { x with service := some { num := num, request := r, reply := none } }) :=
    .service s p _
  have hd := (does_answerRequest (i := i) p r).before hq
  unfold State.handOn
  dsimp only
  split
  next t a ha =>
    rw [ha] at hd
    exact ⟨hd.after (.setReply ..), by simp⟩
  next t ha =>
    rw [ha] at hd
    refine ⟨hd, ?_⟩
    rw [State.port_of_ports (ports_answerRequest_of_none ha)]
    simp

/-- A good frame is handed on, or changes only its port, and finds or leaves a request in the service slot. -/
theorem acceptFrame_cases (p : Port) (num : Byte) (r : Request) :
    ((s.port p).service ≠ none → Quiet s (s.acceptFrame p num r)) ∧ Does i s (s.acceptFrame p num r) ∧
      ((s.acceptFrame p num r).port p).service ≠ none := by
  unfold State.acceptFrame
  split
  next hs => exact ⟨fun h => absurd hs h, does_handOn p num r⟩
  next x hs hw =>
    have hq : Quiet s (s.updPort p fun x => { x with waiting := some { num := num, request := r } }) := .waiting s p _
    exact ⟨fun _ => hq, .quiet hq, by simp [hs]⟩
  next x y hs hw =>
    refine ⟨fun _ => .overrun .., .quiet (.overrun ..), ?_⟩
    rw [State.overrun, State.port_capture]
    split <;> simp [State.lineFault, hs]

theorem does_arrive (p : Port) (num : Byte) (r : Request) : Does i s (s.arrive p num r) := by
  unfold State.arrive
  split
  · exact .quiet (.refl s)
  · split
    · exact .quiet (.lineFault ..)
    · exact (acceptFrame_cases p num r).2.1.before (.assembler s p .idle)

/-- One character is quiet and leaves the service slot, or it ends a frame. -/
theorem receiveChar_cases (p : Port) (ch : Byte) :
    (Quiet s (s.receiveChar p ch) ∧ ((s.receiveChar p ch).port p).service = (s.port p).service) ∨
      ∃ num r, s.receiveChar p ch = (s.updPort p fun y => { y with assembler := .idle }).acceptFrame p num r := by
  have hq (a : Assembler) : Quiet s (s.updPort p fun y => { y with assembler := a }) ∧
      ((s.updPort p fun y => { y with assembler := a }).port p).service = (s.port p).service :=
    ⟨.assembler s p a, by simp⟩
  have hf (flag : LineStatus → LineStatus) : Quiet s (s.lineFault p flag) ∧ ((s.lineFault p flag).port p).service = (s.port p).service :=
    ⟨.lineFault .., by simp [State.lineFault]⟩
  unfold State.receiveChar
  dsimp only
  split
  · exact .inl ⟨.refl s, rfl⟩
  · split
    · split
      · exact .inl (hq _)
      · exact .inl ⟨.refl s, rfl⟩
    · split
      · exact .inl (hf _)
      · exact .inl (hq _)
    · split
      · exact .inl (hq _)
      · split
        · split
          · exact .inr ⟨_, _, rfl⟩
          · exact .inl (hq _)
        · exact .inl (hf _)

theorem State.receiveChar_quiet {p : Port} (h : (s.port p).service ≠ none) (ch : Byte) :
    Quiet s (s.receiveChar p ch) ∧ ((s.receiveChar p ch).port p).service ≠ none := by
  obtain ⟨hq, hs⟩ | ⟨num, r, hr⟩ := receiveChar_cases (s := s) p ch
  · exact ⟨hq, hs ▸ h⟩
  · have hi : Quiet s (s.updPort p fun y => { y with assembler := .idle }) := .assembler s p .idle
    obtain ⟨ha, -, hn⟩ := acceptFrame_cases (i := .secondEvent) (s := s.updPort p fun y => { y with assembler := .idle }) p num r
    rw [hr]
    exact ⟨hi.trans (ha (by simpa using h)), hn⟩

/-- While a request is in service no character reaches a block (R163). -/
theorem Quiet.receiveAll {p : Port} (chars : List Byte) (h : (s.port p).service ≠ none) :
    Quiet s (chars.foldl (State.receiveChar p) s) := by
  induction chars generalizing s with
  | nil => exact .refl s
  | cons ch rest ih =>
    obtain ⟨hq, hn⟩ := s.receiveChar_quiet h ch
    exact hq.trans (ih hn)

theorem does_receiveChar (p : Port) (ch : Byte) : Does i s (s.receiveChar p ch) := by
  obtain ⟨hq, -⟩ | ⟨num, r, hr⟩ := receiveChar_cases (s := s) p ch
  · exact .quiet hq
  · rw [hr]
    exact (acceptFrame_cases p num r).2.1.before (.assembler s p .idle)

/-- Of a run of characters at most one ends a frame that is handed on. -/
theorem does_receive (p : Port) (chars : List Byte) : Does i s (s.receive p chars) := by
  rw [State.receive_eq]
  induction chars generalizing s with
  | nil => exact .quiet (.refl s)
  | cons ch rest ih =>
    rw [List.foldl_cons]
    obtain ⟨hq, -⟩ | ⟨num, r, hr⟩ := receiveChar_cases (s := s) p ch
    · exact ih.before hq
    · obtain ⟨-, hd, hn⟩ := acceptFrame_cases (i := i) (s := s.updPort p fun y => { y with assembler := .idle }) p num r
      rw [hr]
      exact (hd.before (.assembler s p .idle)).after (.receiveAll rest hn)

theorem does_replyLeaves (p : Port) : Does i s (s.replyLeaves p) := by
  unfold State.replyLeaves
  split
  · split
    · exact .quiet (.service s p none)
    · exact (does_handOn ..).1.before (.slots s p none none)
  · exact .quiet (.refl s)

theorem does_portBreak (p : Port) : Does i s (s.portBreak p) := by
  unfold State.portBreak
  split
  · exact .quiet (.refl s)
  · exact .chain ((Chain.quiet (.updPort .broken)).trans (Chain.releaseHoldsOf ..))

/-! Every command -/

theorem Does.ite {c : Prop} [Decidable c] {t u : State} (ht : c → Does i s t) (hu : ¬ c → Does i s u) :
    Does i s (if c then t else u) := by
  split
  · exact ht ‹_›
  · exact hu ‹_›

/-- What a command can do to the state. -/
theorem exec_does {t : State} (h : exec i s = .next t) : Does i s t := by
  cases i with
  | badKindRequest p num k => cases h; exact .ite (fun _ => .quiet (.refl s)) fun _ => does_arrive ..
  | secondEvent => cases h; exact .chain (.tick (.inl rfl) s)
  | holdLapse t => cases h; exact .chain (.takeHoldLapse s t)
  | dwellLapse t => cases h; exact .chain (.takeDwellLapse s t)
  | midnightRollover => cases h; exact .ite (fun _ => .chain (.tick (.inr rfl) s)) fun _ => .quiet (.refl s)
  | sweepVisit t => cases h; exact .chain (.visit s t)
  | stopRise => cases h; exact .ite (fun _ => .quiet (.refl s)) fun _ => .chain (Chain.one (.stopRise rfl) (.raise ..))
  | stopFall => cases h; exact .ite (fun _ => .chain (Chain.one (.stopFall rfl) (.raise ..))) fun _ => .quiet (.refl s)
  | deviceReset roles rate stop => cases h; exact .chain (.single (.reset roles rate stop rfl))
  | portReset p => cases h; exact does_portBreak p
  | computationStart => cases h; exact .chain (.single .start)
  | firstGradeCompletion =>
    cases h
    split
    next k he => exact .ite (fun hk => .chain (.completeFirst he hk)) fun _ => .quiet (.refl s)
    next => exact .quiet (.refl s)
  | auditGradeCompletion =>
    cases h
    split
    next k he => exact .ite (fun hk => .chain (.completeAudit he hk)) fun _ => .quiet (.refl s)
    next => exact .quiet (.refl s)
  | drainCompletion u => cases h; exact .chain (.drainIfDone s u)
  | waitingToteDeparture => cases h; exact .chain (.handPlace s)
  | goodFrame p chars => cases h; exact does_receive p chars
  | replySent p => cases h; exact does_replyLeaves p
  | gapTimeout p late => cases h; exact (does_receiveChar p late).before (.faultEvent ..)
  | portOverrun p => cases h; exact .ite (fun _ => .quiet (.overrun s p)) fun _ => .quiet (.refl s)
  | lineReturnToMark p => cases h; exact .quiet (.mark s p)
  | parityError p | framingError p | checkError p | lengthError p => cases h; exact .quiet (.faultEvent ..)
  | _ => cases h; exact does_arrive ..

/-- An invariant that the elementary changes and the arrivals keep, and that does not look at the queue, is kept by every step. -/
theorem step_keeps {P : State → Prop} (hpending : ∀ s q, P s → P (s.withPending q)) (hchange : ∀ i s t, Change i s t → P s → P t)
    (harrival : ∀ s t, Arrival s t → P s → P t) {s t : State} (hs : P s) (h : step s = .next t) : P t := by
  unfold step at h
  split at h
  · cases h; exact hs
  next c rest _ =>
    obtain hc | ⟨u, v, hu, ha, hv⟩ := exec_does h
    · exact hc.keeps (hchange c) (hpending s rest hs)
    · exact hchange c _ _ (.quiet hv) (harrival _ _ ha (hchange c _ _ (.quiet hu) (hpending s rest hs)))

end

end Sys2Proof.Machine
end

section
/-! SUPPORT. What the elementary changes leave as it is, what they do to a case, and the statements that follow: the step, the pins, the
fixed fields of a case, ATTN and the error lock. -/

namespace Sys2Proof.Machine

/-! What the compound changes leave -/

theorem State.outOfTote_eq (s : State) (loc : Location) (tag : Tag) : s.outOfTote loc tag = s.withTotes (s.outOfTote loc tag).totes := by
  cases loc <;> rfl

theorem State.startComputation_eq (s : State) :
    s.startComputation = (s.withGradingQueue s.startComputation.gradingQueue).withEngine s.startComputation.engine := by
  obtain h | ⟨x, rest, c, -, -, -, h⟩ := s.startComputation_cases <;> rw [h]
  · rfl
  · rfl

section
variable {i : Instr} {s t : State}

/-- What every elementary change but a quiet one, a device reset, an edge of STOP and the advance of the calendar leaves. -/
structure PinsKept (s t : State) : Prop where
  ports : t.ports = s.ports
  errors : t.errors = s.errors
  lineRate : t.lineRate = s.lineRate
  secondCount : t.calendar.secondCount = s.calendar.secondCount
  stopped : t.stopped = s.stopped

theorem PinsKept.refl (s : State) : PinsKept s s := ⟨rfl, rfl, rfl, rfl, rfl⟩

theorem PinsKept.outOfTote {s t : State} (h : PinsKept s t) (loc : Location) (tag : Tag) : PinsKept s (t.outOfTote loc tag) := by
  rw [State.outOfTote_eq]; exact ⟨h.ports, h.errors, h.lineRate, h.secondCount, h.stopped⟩

theorem PinsKept.startComputation {s t : State} (h : PinsKept s t) : PinsKept s t.startComputation := by
  rw [State.startComputation_eq]; exact ⟨h.ports, h.errors, h.lineRate, h.secondCount, h.stopped⟩

theorem Change.pins (h : Change i s t) : Quiet s t ∨ PinsKept s t ∨
    (i = .stopRise ∨ i = .stopFall) ∧ t.ports = s.ports ∧ t.errors = s.errors ∧ t.lineRate = s.lineRate ∧
      t.calendar = s.calendar ∨
    (i = .secondEvent ∨ i = .midnightRollover) ∧ t = s.withCalendar s.calendar.advance ∨
    ∃ roles rate stop, i = .deviceReset roles rate stop ∧
      t = ((State.afterReset roles rate stop).withFreeCount s.freeCount).withPending s.pending := by
  cases h with
  | quiet h => exact .inl h
  | stopRise hi => exact .inr (.inr (.inl ⟨.inl hi, rfl, rfl, rfl, rfl⟩))
  | stopFall hi => exact .inr (.inr (.inl ⟨.inr hi, rfl, rfl, rfl, rfl⟩))
  | advance hi => exact .inr (.inr (.inr (.inl ⟨hi, rfl⟩)))
  | reset roles rate stop hi => exact .inr (.inr (.inr (.inr ⟨roles, rate, stop, hi, rfl⟩)))
  | force | claimAudit => exact .inr (.inl (by apply PinsKept.outOfTote; exact ⟨rfl, rfl, rfl, rfl, rfl⟩))
  | submit | start | completeFirst | completeAudit => exact .inr (.inl (PinsKept.startComputation ⟨rfl, rfl, rfl, rfl, rfl⟩))
  | _ => exact .inr (.inl ⟨rfl, rfl, rfl, rfl, rfl⟩)

/-! The rules of the ports and of the error lock -/

/-- The ports' rules that a device reset gives, whatever it samples (R157). -/
theorem State.port_afterReset (roles : BitVec 16) (rate : BitVec 2) (stop : Bool) (p : Port) :
    (State.afterReset roles rate stop).port p = .sampled roles p.val := by
  fin_cases p <;> rfl

/-- Settles O55: quiet changes keep both rules, the others leave the ports and the error capture, and a device reset clears them. -/
theorem stepKeepsAttnAndLock : Obligations.StepKeepsAttnAndLock := by
  intro s t ha hl h
  refine step_keeps (P := fun s => AttnFollows s ∧ LockFollows s) (fun _ _ => id) ?_ ?_ ⟨ha, hl⟩ h
  · intro i u v hc ⟨hattn, hlock⟩
    have hkept (hp : v.ports = u.ports) (he : v.errors = u.errors) : AttnFollows v ∧ LockFollows v :=
      ⟨fun p => by rw [State.port_of_ports hp]; exact hattn p, by rw [LockFollows, he]; exact hlock⟩
    obtain hq | hp | ⟨-, hp, he, -⟩ | ⟨-, rfl⟩ | ⟨roles, rate, stop, -, rfl⟩ := hc.pins
    · exact ⟨fun p => (hq.ports p).attn (hattn p), hq.lock hlock⟩
    · exact hkept hp.ports hp.errors
    · exact hkept hp he
    · exact hkept rfl rfl
    · exact ⟨fun p => by rw [State.port_withPending, State.port_withFreeCount, State.port_afterReset]; rfl, fun _ => ⟨rfl, rfl, rfl⟩, fun _ => rfl⟩
  · intro u v hc hk
    cases hc <;> exact hk

/-- Settles O1, by the definition of the step. -/
theorem stepRunsFrontCommand : Obligations.StepRunsFrontCommand :=
  ⟨fun c rest s h => by rw [step, h], fun s h => by rw [step, h]⟩

/-! Pins and counts -/

/-- What holds along a chain of a command that is no device reset. -/
theorem Chain.pins (hi : ∀ roles rate stop, i ≠ .deviceReset roles rate stop) (h : Chain i s t) :
    (∀ p, (t.port p).role = (s.port p).role) ∧ t.lineRate = s.lineRate ∧
      (i ≠ .stopRise → i ≠ .stopFall → t.stopped = s.stopped) ∧
      (i ≠ .secondEvent → i ≠ .midnightRollover → t.calendar.secondCount = s.calendar.secondCount) := by
  refine Chain.keeps h (P := fun t => (∀ p, (t.port p).role = (s.port p).role) ∧ t.lineRate = s.lineRate ∧
    (i ≠ .stopRise → i ≠ .stopFall → t.stopped = s.stopped) ∧
    (i ≠ .secondEvent → i ≠ .midnightRollover → t.calendar.secondCount = s.calendar.secondCount)) ?_
    ⟨fun _ => rfl, rfl, fun _ _ => rfl, fun _ _ => rfl⟩
  rintro u v hc ⟨hrole, hrate, hstop, hcount⟩
  obtain hq | hp | ⟨hst, hp, -, hr, hcal⟩ | ⟨hev, rfl⟩ | ⟨roles, rate, stop, hdev, -⟩ := hc.pins
  · have hrest := hq.rest
    exact ⟨fun p => (hq.ports p).role.trans (hrole p), by rw [hrest]; exact hrate, fun h h' => by rw [hrest]; exact hstop h h',
      fun h h' => by rw [hrest]; exact hcount h h'⟩
  · exact ⟨fun p => by rw [State.port_of_ports hp.ports]; exact hrole p, hp.lineRate.trans hrate,
      fun h h' => hp.stopped.trans (hstop h h'), fun h h' => hp.secondCount.trans (hcount h h')⟩
  · exact ⟨fun p => by rw [State.port_of_ports hp]; exact hrole p, hr.trans hrate,
      fun h h' => (hst.elim h h').elim, fun h h' => by rw [hcal]; exact hcount h h'⟩
  · exact ⟨hrole, hrate, hstop, fun h h' => (hev.elim h h').elim⟩
  · exact absurd hdev (hi roles rate stop)

theorem State.secondCount_settleLapses (s : State) : s.settleLapses.calendar.secondCount = s.calendar.secondCount := by
  obtain ⟨-, -, -, h⟩ := (Chain.settleLapses (i := .computationStart) s).pins (by simp)
  exact h (by simp) (by simp)

/-- The sweep's set and its notices leave the second count. -/
theorem State.secondCount_sweepGoesOn (s : State) (set : List Tag) :
    (s.sweepGoesOn set).calendar.secondCount = s.calendar.secondCount := by
  unfold State.sweepGoesOn; split <;> rfl

/-- R141: the second count goes up by one and is held at its largest value. -/
theorem State.secondCount_tick (s : State) : s.tick.calendar.secondCount = min 4294967295 (s.calendar.secondCount + 1) := by
  rw [← s.secondCount_settleLapses]
  unfold State.tick
  dsimp only
  split
  · rw [State.secondCount_sweepGoesOn]; rfl
  · rfl

/-- Settles O3: the changes of any other command leave the pins, and the second event counts one. -/
theorem pinsAndCountChangeOnlyByTheirEvents : Obligations.PinsAndCountChangeOnlyByTheirEvents := by
  intro c s t h hc
  have hcount (he : c = .secondEvent) : t.calendar.secondCount = min 4294967295 (s.calendar.secondCount + 1) := by
    subst he; cases h; exact s.secondCount_tick
  obtain hch | ⟨u, v, hu, ha, hv⟩ := exec_does h
  · obtain ⟨hrole, hrate, hstop, hsecond⟩ := hch.pins hc
    exact ⟨hrole, hrate, hstop, hsecond, hcount⟩
  · have hrole (p : Port) : (v.port p).role = (u.port p).role := by cases ha <;> rfl
    have hv' := hv.rest
    have hu' := hu.rest
    refine ⟨fun p => ((hv.ports p).role.trans (hrole p)).trans (hu.ports p).role, ?_, fun _ _ => ?_, fun _ _ => ?_, hcount⟩
    all_goals
      rw [hv']
      cases ha <;> rw [hu'] <;> rfl

/-! What becomes of a case -/

/-- What an elementary change does to one case. -/
inductive CaseChange (s : State) (t : Tag) (c : Case) : Case → Prop
  | same : CaseChange s t c c
  | lapse (hs : c.state = .expected) : CaseChange s t c { c with state := .lapsed }
  | force (bd : Band) (g : Gate) (hs : c.state = .graded ∨ c.state = .placed) (hq : c.finalBand = some .q) :
      CaseChange s t c (c.forced bd g)
  | claim (p : Port) (hp : (s.port p).role = .bench) (hs : c.state = .expected) :
      CaseChange s t c (c.heldBy (s.newHold p) .onBench)
  | renew (p : Port) (h : Hold) (hp : (s.port p).role = .bench) (hs : c.state = .onBench ∨ c.state = .onAudit)
      (hh : c.holder = some h) (hq : h.port = p) : CaseChange s t c { c with holder := some (s.newHold p) }
  | claimAudit (p : Port) (hp : (s.port p).role = .bench) (hs : c.state = .auditWait)
      (hg : ¬ c.firstGrade.map (·.grader) = some p) :
      CaseChange s t c { c.heldBy (s.newHold p) .onAudit with location := .none }
  | submit (p : Port) (hh : c.isHeldBy p = true) : CaseChange s t c { c with holder := none, state := .grading }
  | giveBack : CaseChange s t c c.returned
  | holdLapse (h : Hold) (hh : c.holder = some h) : CaseChange s t c { c.returned with lastLapsedHolder := some h.port }
  | handBack (r : Reservation) (o : Option ToteNo) (hr : c.reservation = some r) :
      CaseChange s t c { c.unreserved with lastLapsedTote := o }
  | reserve (cls : RouteClass) (u : ToteNo) (hs : c.state = .graded) (hcls : c.classCalledFor = some cls) :
      CaseChange s t c { c with state := .routed, routeClass := some cls, lastLapsedTote := none,
                                reservation := some ⟨u, satAdd s.secondCount s.settings.dwellLimit, false⟩ }
  | place (r : Reservation) (hs : c.state = .routed) (hr : c.reservation = some r) :
      CaseChange s t c { c with reservation := none, location := .inTote r.tote, state := c.placedState }
  | depart (u : ToteNo) (hm : t ∈ (s.tote u).manifest) : CaseChange s t c { c with location := .departed }
  | dwellNotDue : CaseChange s t c c.dwellNotDue
  | rearm : CaseChange s t c (c.rearmed (satAdd s.secondCount s.settings.dwellLimit))
  | mark (n : Nat) (b : Bool) : CaseChange s t c (c.markDue n b)
  | first (k : Computation) (he : s.engine = some k) (hk : k.submission.kind = .first) (ht : k.submission.tag = t) :
      CaseChange s t c (c.firstGraded (s.firstGradeNow k c)
        (consultsSampler (s.firstGradeNow k c).band &&
          selects (if consultsSampler (s.firstGradeNow k c).band then samplerStep s.sampler else s.sampler) k.record.rate))
  | audit (k : Computation) (first : GradeRecord) (he : s.engine = some k) (hk : k.submission.kind = .audit)
      (ht : k.submission.tag = t) (hf : c.firstGrade = some first) :
      CaseChange s t c (c.auditGraded first (k.grade false) (outcomeOf first (k.grade false) k.record.tolerance))

/-- Every case of `t` was in the table at `s`, and has changed as an elementary change may change it. -/
def CasesFrom (s t : State) : Prop := ∀ u c', t.case? u = some c' → ∃ c, s.case? u = some c ∧ CaseChange s u c c'

theorem CasesFrom.of_cases (h : t.cases = s.cases) : CasesFrom s t := fun u c hc =>
  ⟨c, by rwa [State.case?_of_cases h] at hc, .same⟩

theorem CasesFrom.setCase {u : State} {tag : Tag} {c c' : Case} (hu : u.cases = s.cases) (hc : s.case? tag = some c)
    (hch : CaseChange s tag c c') : CasesFrom s (u.setCase tag c') := by
  intro v d hd
  rw [State.case?_setCase, State.case?_of_cases hu] at hd
  split at hd
  next hv => subst hv; cases hd; exact ⟨c, hc, hch⟩
  next => exact ⟨d, hd, .same⟩

theorem CasesFrom.mapValues {u : State} {f : Case → Case} (hu : u.cases = s.cases.mapValues f)
    (hf : ∀ v c, CaseChange s v c (f c)) : CasesFrom s u := by
  intro v d hd
  rw [State.case?, hu, Store.find?_mapValues, Option.map_eq_some_iff] at hd
  obtain ⟨c, hc, rfl⟩ := hd
  exact ⟨c, hc, hf v c⟩

theorem CasesFrom.congr {u : State} (h : CasesFrom s t) (hu : u.cases = t.cases) : CasesFrom s u := fun v c hc =>
  h v c (by rwa [State.case?_of_cases hu] at hc)

theorem State.cases_outOfTote (s : State) (loc : Location) (tag : Tag) : (s.outOfTote loc tag).cases = s.cases := by
  rw [State.outOfTote_eq]; rfl

theorem State.cases_startComputation (s : State) : s.startComputation.cases = s.cases := by
  rw [State.startComputation_eq]; rfl

theorem State.case?_departed (s : State) (u : ToteNo) (t : Tag) :
    (s.departed u).case? t = if t ∈ (s.tote u).manifest then (s.case? t).map fun c => { c with location := .departed }
      else s.case? t :=
  find?_markDeparted ..

theorem Change.casesFrom (h : Change i s t) : CasesFrom s t := by
  cases h with
  | quiet h => exact .of_cases (by rw [h.rest]; rfl)
  | drop u c hc hs =>
    intro v d hd
    rw [State.case?_erase] at hd
    split at hd
    · cases hd
    · exact ⟨d, hd, .same⟩
  | lapse u c hc hs => exact .setCase rfl hc (.lapse hs)
  | force u c bd g hc hs hq => exact (CasesFrom.setCase rfl hc (.force bd g hs hq)).congr (State.cases_outOfTote ..)
  | depart u _ _ =>
    intro v d hd
    rw [State.case?_departed] at hd
    split at hd
    next hm =>
      obtain ⟨c, hc, rfl⟩ := Option.map_eq_some_iff.mp hd
      exact ⟨c, hc, .depart u hm⟩
    next => exact ⟨d, hd, .same⟩
  | clear => intro v d hd; cases hd
  | claim p u c hp hc hs => exact .setCase rfl hc (.claim p hp hs)
  | renew p u c h hp hc hs hh hq => exact .setCase rfl hc (.renew p h hp hs hh hq)
  | claimAudit p u c hp hc hs hg =>
    exact (CasesFrom.setCase rfl hc (.claimAudit p hp hs hg)).congr (State.cases_outOfTote ..)
  | submit p u c observed obs hp hm hc hh hn hl =>
    exact (CasesFrom.setCase rfl hc (.submit p hh)).congr (State.cases_startComputation _)
  | giveBack u c hc => exact .setCase rfl hc .giveBack
  | holdLapse u c h hc hh => exact .setCase rfl hc (.holdLapse h hh)
  | handBack u c r o hc hr => exact .setCase rfl hc (.handBack r o hr)
  | reserve u c cls v hc hs hcls ha => exact .setCase rfl hc (.reserve cls v hs hcls)
  | place u c r hc hs hr => exact .setCase rfl hc (.place r hs hr)
  | stopRise => exact .mapValues rfl fun _ _ => .dwellNotDue
  | stopFall => exact .mapValues rfl fun _ _ => .rearm
  | mark n b => exact .mapValues rfl fun _ _ => .mark n b
  | start => exact .of_cases (State.cases_startComputation s)
  | completeFirst k c he hk hc =>
    exact (CasesFrom.setCase rfl hc (.first k he hk rfl)).congr (State.cases_startComputation _)
  | completeAudit k c first he hk hc hf =>
    exact (CasesFrom.setCase rfl hc (.audit k first he hk rfl hf)).congr (State.cases_startComputation _)
  | reset => intro v d hd; cases hd
  | _ => exact .of_cases rfl

/-- R2: the five fields that no elementary change touches. -/
theorem CaseChange.fixed {tag : Tag} {c c' : Case} (h : CaseChange s tag c c') :
    c'.category = c.category ∧ c'.sku = c.sku ∧ c'.declared = c.declared ∧ c'.deliveryDay = c.deliveryDay ∧
      c'.openedDay = c.openedDay := by
  have hr : c.returned.category = c.category ∧ c.returned.sku = c.sku ∧ c.returned.declared = c.declared ∧
      c.returned.deliveryDay = c.deliveryDay ∧ c.returned.openedDay = c.openedDay := by
    unfold Case.returned; split <;> exact ⟨rfl, rfl, rfl, rfl, rfl⟩
  cases h with
  | giveBack => exact hr
  | holdLapse => exact hr
  | rearm => unfold Case.rearmed; split <;> exact ⟨rfl, rfl, rfl, rfl, rfl⟩
  | _ => exact ⟨rfl, rfl, rfl, rfl, rfl⟩

theorem Chain.fixed (h : Chain i s t) (tag : Tag) (c' : Case) (hc : t.case? tag = some c') :
    ∃ c, s.case? tag = some c ∧ c'.category = c.category ∧ c'.sku = c.sku ∧ c'.declared = c.declared ∧
      c'.deliveryDay = c.deliveryDay ∧ c'.openedDay = c.openedDay := by
  induction h generalizing c' with
  | refl => exact ⟨c', hc, rfl, rfl, rfl, rfl, rfl⟩
  | tail _ hch ih =>
    obtain ⟨d, hd, hch⟩ := hch.casesFrom tag c' hc
    obtain ⟨h1, h2, h3, h4, h5⟩ := hch.fixed
    obtain ⟨c, hc, g1, g2, g3, g4, g5⟩ := ih d hd
    exact ⟨c, hc, h1.trans g1, h2.trans g2, h3.trans g3, h4.trans g4, h5.trans g5⟩

theorem Quiet.case? (h : Quiet s t) (u : Tag) : t.case? u = s.case? u := State.case?_of_cases (by rw [h.rest]; rfl) u

theorem Quiet.calendar (h : Quiet s t) : t.calendar = s.calendar := by rw [h.rest]; rfl

/-- Settles O4: no elementary change touches the fixed fields, a new case was not there before, and a revive writes today. -/
theorem caseFieldsFixedForLife : Obligations.CaseFieldsFixedForLife := by
  intro i s t tag c c' h hc hc'
  obtain hch | ⟨u, v, hu, ha, hv⟩ := exec_does h
  · obtain ⟨d, hd, h1, h2, h3, h4, h5⟩ := hch.fixed tag c' hc'
    cases hc.symm.trans hd
    exact ⟨h1, h2, h3, h4, .inl h5⟩
  · rw [hv.case?] at hc'
    rw [← hu.case?] at hc
    cases ha with
    | opens a _ hn _ =>
      rw [State.case?_setCase] at hc'
      split at hc'
      next ht => subst ht; rw [hn] at hc; cases hc
      next => cases hc.symm.trans hc'; exact ⟨rfl, rfl, rfl, rfl, .inl rfl⟩
    | revives x d hd hs =>
      rw [State.case?_setCase] at hc'
      split at hc'
      next ht =>
        subst ht
        cases hc.symm.trans hd
        cases hc'
        exact ⟨rfl, rfl, rfl, rfl, .inr ⟨hs, rfl, congrArg Calendar.day hu.calendar⟩⟩
      next => cases hc.symm.trans hc'; exact ⟨rfl, rfl, rfl, rfl, .inl rfl⟩

end

end Sys2Proof.Machine
end

section
/-! SUPPORT. The canonical form of the tables: what each write keeps of it, and that every step keeps it. -/

namespace Sys2Proof.Machine

/-! Sizes of stores -/

theorem length_insertIn_of_findIn {ν : Type} {k : Nat} {v w : ν} :
    ∀ {l : List (Nat × ν)} {lo : Nat}, risingFrom lo l = true → findIn k l = some w → (insertIn k v l).length = l.length
  | e :: r, lo, hl, h => by
    simp only [risingFrom, Bool.and_eq_true, decide_eq_true_eq] at hl
    unfold findIn at h
    unfold insertIn
    split at h
    next hk => rw [if_neg (by omega), if_pos hk]; rfl
    next hk =>
      obtain ⟨hlo, -⟩ := findIn_of_mem hl.2 (mem_of_findIn_eq h)
      rw [if_neg (by dsimp only at hlo; omega), if_neg hk, List.length_cons, List.length_cons, length_insertIn_of_findIn hl.2 h]

theorem length_eraseIn_le {ν : Type} (k : Nat) : ∀ l : List (Nat × ν), (eraseIn k l).length ≤ l.length
  | [] => Nat.le_refl 0
  | e :: r => by
    unfold eraseIn
    split
    · exact Nat.le_succ_of_le (length_eraseIn_le k r)
    · exact Nat.succ_le_succ (length_eraseIn_le k r)

/-! The case table -/

/-- The case table's part of the canonical form (R1). -/
structure CasesCanonical (m : Store Case) : Prop where
  sorted : m.sorted = true
  keys : ∀ e ∈ m.entries, e.1 < 2 ^ 32
  size : m.size ≤ 1024

section
variable {m : Store Case}

theorem CasesCanonical.empty : CasesCanonical .empty := ⟨rfl, (fun _ he => nomatch he), Nat.zero_le 1024⟩

theorem CasesCanonical.keys_insert (h : CasesCanonical m) (t : Tag) (c : Case) :
    ∀ e ∈ (m.insert t.toNat c).entries, e.1 < 2 ^ 32 := by
  intro e he
  obtain rfl | he := mem_insertIn _ he
  · exact t.isLt
  · exact h.keys e he

/-- A case present is written in its place. -/
theorem CasesCanonical.rewrite (h : CasesCanonical m) {t : Tag} {c : Case} (hc : m.find? t.toNat = some c) (c' : Case) :
    CasesCanonical (m.insert t.toNat c') :=
  ⟨Store.sorted_insert h.sorted _ _, h.keys_insert t c', (length_insertIn_of_findIn h.sorted hc).trans_le h.size⟩

theorem CasesCanonical.insert (h : CasesCanonical m) {t : Tag} (hc : m.find? t.toNat = none) (hl : m.size < 1024) (c : Case) :
    CasesCanonical (m.insert t.toNat c) :=
  ⟨Store.sorted_insert h.sorted _ _, h.keys_insert t c, by rw [Store.size_insert_of_find?_none c hc]; exact hl⟩

theorem CasesCanonical.erase (h : CasesCanonical m) (k : Nat) : CasesCanonical (m.erase k) :=
  ⟨Store.sorted_erase h.sorted k, fun e he => h.keys e (mem_eraseIn _ he), (length_eraseIn_le k _).trans h.size⟩

theorem CasesCanonical.mapValues (h : CasesCanonical m) (f : Case → Case) : CasesCanonical (m.mapValues f) where
  sorted := (Store.sorted_mapValues f m).trans h.sorted
  keys e he := by
    obtain ⟨x, hx, rfl⟩ := List.mem_map.mp he
    exact h.keys x hx
  size := (List.length_map ..).trans_le h.size

theorem CasesCanonical.markDeparted (h : CasesCanonical m) (tags : List Tag) : CasesCanonical (markDeparted tags m) := by
  induction tags generalizing m with
  | nil => exact h
  | cons t rest ih =>
    rw [Machine.markDeparted, List.foldl_cons]
    apply ih
    split
    next c hc => exact h.rewrite hc _
    next => exact h

end

/-! The tote register and the category tables -/

/-- The tote register's part of the canonical form. -/
structure TotesCanonical (m : Store Tote) : Prop where
  lists : m.lists Tote.unused = true
  keys : ∀ e ∈ m.entries, e.1 < 256

theorem TotesCanonical.empty : TotesCanonical .empty := ⟨rfl, fun _ he => nomatch he⟩

theorem mem_put {ν : Type} [DecidableEq ν] {d v : ν} {m : Store ν} {k : Nat} {e : Nat × ν} (h : e ∈ (Store.put d m k v).entries) :
    e = (k, v) ∨ e ∈ m.entries := by
  unfold Store.put at h
  split at h
  · exact .inr (mem_eraseIn _ h)
  · exact mem_insertIn _ h

theorem TotesCanonical.put {m : Store Tote} (h : TotesCanonical m) (u : ToteNo) (k : Tote) :
    TotesCanonical (Store.put .unused m u.toNat k) where
  lists := Store.lists_put h.lists _ _
  keys e he := by
    obtain rfl | he := mem_put he
    · exact u.isLt
    · exact h.keys e he

/-- Clear Floor makes no tote one that the register does not list (R138). -/
theorem Tote.floorCleared_ne_unused {k : Tote} (h : k ≠ .unused) : k.floorCleared ≠ .unused := by
  unfold Tote.floorCleared
  split
  · exact h
  · intro he; cases congrArg Tote.state he

theorem TotesCanonical.floorCleared {m : Store Tote} (h : TotesCanonical m) : TotesCanonical (m.mapValues Tote.floorCleared) where
  lists := by
    have hl := h.lists
    simp only [Store.lists, Bool.and_eq_true, List.all_eq_true, decide_eq_true_eq] at hl ⊢
    refine ⟨(Store.sorted_mapValues ..).trans hl.1, fun e he => ?_⟩
    obtain ⟨x, hx, rfl⟩ := List.mem_map.mp he
    exact Tote.floorCleared_ne_unused (hl.2 x hx)
  keys e he := by
    obtain ⟨x, hx, rfl⟩ := List.mem_map.mp he
    exact h.keys x hx

/-- The weight table's part of the canonical form. -/
structure WeightsCanonical (m : Store (Store WeightEntry)) : Prop where
  lists : m.lists Store.empty = true
  rows : ∀ e ∈ m.entries, e.2.lists WeightEntry.zero = true

theorem lists_writeRun (es : List WeightWrite) (k : Nat) {row : Store WeightEntry} (h : row.lists WeightEntry.zero = true) :
    (writeRun k es row).lists WeightEntry.zero = true := by
  induction es generalizing k row with
  | nil => exact h
  | cons e rest ih => exact ih _ (Store.lists_put h _ _)

theorem WeightsCanonical.row {m : Store (Store WeightEntry)} (h : WeightsCanonical m) (k : Nat) :
    (Store.get .empty m k).lists WeightEntry.zero = true := by
  unfold Store.get
  cases hf : m.find? k with
  | none => rfl
  | some row => exact h.rows _ (Store.mem_of_find? hf)

theorem WeightsCanonical.put {m : Store (Store WeightEntry)} (h : WeightsCanonical m) (k : Nat) {row : Store WeightEntry}
    (hr : row.lists WeightEntry.zero = true) : WeightsCanonical (Store.put .empty m k row) where
  lists := Store.lists_put h.lists _ _
  rows e he := by
    obtain rfl | he := mem_put he
    · exact hr
    · exact h.rows e he

theorem sorted_writeMapEntry {m : Store ToteNo} (h : m.sorted = true) (e : MapWrite) : (writeMapEntry m e).sorted = true := by
  unfold writeMapEntry
  split
  · split
    · exact Store.sorted_insert h _ _
    · exact Store.sorted_erase h _
  · exact h

theorem sorted_foldl_writeMapEntry (es : List MapWrite) {m : Store ToteNo} (h : m.sorted = true) :
    (es.foldl writeMapEntry m).sorted = true := by
  induction es generalizing m with
  | nil => exact h
  | cons e rest ih => exact ih (sorted_writeMapEntry h e)

/-! The whole state -/

/-- The canonical form, table by table. -/
structure TablesCanonical (s : State) : Prop where
  cases : CasesCanonical s.cases
  totes : TotesCanonical s.totes
  toteMap : s.toteMap.sorted = true
  categories : s.categories.lists CategoryRecord.neutral = true
  weights : WeightsCanonical s.weights
  notices : ∀ p, (s.port p).notices.sorted = true
  outbound : s.outbound.length ≤ 16

theorem canonical_iff (s : State) : Canonical s ↔ TablesCanonical s := by
  constructor
  · rintro ⟨hcs, hck, htl, htk, hm, hg, hwl, hwr, hn, hz, ho⟩
    exact ⟨⟨hcs, hck, hz⟩, ⟨htl, htk⟩, hm, hg, ⟨hwl, hwr⟩, hn, ho⟩
  · rintro ⟨⟨hcs, hck, hz⟩, ⟨htl, htk⟩, hm, hg, ⟨hwl, hwr⟩, hn, ho⟩
    exact ⟨hcs, hck, htl, htk, hm, hg, hwl, hwr, hn, hz, ho⟩

section
variable {s t : State}

theorem TablesCanonical.withCases (h : TablesCanonical s) {m : Store Case} (hm : CasesCanonical m) :
    TablesCanonical (s.withCases m) := ⟨hm, h.totes, h.toteMap, h.categories, h.weights, h.notices, h.outbound⟩

theorem TablesCanonical.withTotes (h : TablesCanonical s) {m : Store Tote} (hm : TotesCanonical m) :
    TablesCanonical (s.withTotes m) := ⟨h.cases, hm, h.toteMap, h.categories, h.weights, h.notices, h.outbound⟩

theorem TablesCanonical.withOutbound (h : TablesCanonical s) {l : List DepartureRecord} (hl : l.length ≤ 16) :
    TablesCanonical (s.withOutbound l) := ⟨h.cases, h.totes, h.toteMap, h.categories, h.weights, h.notices, hl⟩

theorem TablesCanonical.setTote (h : TablesCanonical s) (u : ToteNo) (k : Tote) : TablesCanonical (s.setTote u k) :=
  h.withTotes (h.totes.put u k)

/-- A case present is written in its place, whatever else of the state has been written before. -/
theorem TablesCanonical.setCase (h : TablesCanonical s) {tag : Tag} {c : Case} (hc : s.case? tag = some c) (c' : Case) :
    TablesCanonical (s.setCase tag c') := h.withCases (h.cases.rewrite hc c')

theorem TablesCanonical.outOfTote (h : TablesCanonical s) (loc : Location) (tag : Tag) : TablesCanonical (s.outOfTote loc tag) := by
  cases loc with
  | inTote u => exact h.setTote u _
  | _ => exact h

theorem TablesCanonical.withGrading (h : TablesCanonical s) (q : List Submission) (e : Option Computation) :
    TablesCanonical ((s.withGradingQueue q).withEngine e) :=
  ⟨h.cases, h.totes, h.toteMap, h.categories, h.weights, h.notices, h.outbound⟩

theorem TablesCanonical.startComputation (h : TablesCanonical s) : TablesCanonical s.startComputation := by
  rw [State.startComputation_eq]; exact h.withGrading ..

theorem TablesCanonical.nextComputation (h : TablesCanonical s) : TablesCanonical s.nextComputation :=
  (h.withGrading s.gradingQueue none).startComputation

theorem TablesCanonical.withCalendar (h : TablesCanonical s) (x : Calendar) : TablesCanonical (s.withCalendar x) :=
  ⟨h.cases, h.totes, h.toteMap, h.categories, h.weights, h.notices, h.outbound⟩

theorem Change.keeps_canonical {i : Instr} (hch : Change i s t) (h : TablesCanonical s) : TablesCanonical t := by
  cases hch with
  | quiet hq =>
    have hn (p : Port) : (t.port p).notices.sorted = true := (hq.ports p).sorted (h.notices p)
    rw [hq.rest] at hn ⊢
    exact ⟨h.cases, h.totes, h.toteMap, h.categories, h.weights, hn, h.outbound⟩
  | drop u c hc hs => exact h.withCases (h.cases.erase _)
  | lapse u c hc hs => exact h.setCase hc _
  | force u c bd g hc hs hq => exact (h.setCase hc _).outOfTote ..
  | weights category first es hw =>
    exact ⟨h.cases, h.totes, h.toteMap, h.categories, h.weights.put _ (lists_writeRun es _ (h.weights.row _)), h.notices, h.outbound⟩
  | category category w k hc ht =>
    exact ⟨h.cases, h.totes, h.toteMap, Store.lists_put h.categories _ _, h.weights, h.notices, h.outbound⟩
  | toteMap es =>
    exact ⟨h.cases, h.totes, sorted_foldl_writeMapEntry es h.toteMap, h.categories, h.weights, h.notices, h.outbound⟩
  | writeTote w hw => exact h.setTote ..
  | takeRecord r rest ho => exact h.withOutbound (by have hl := h.outbound; rw [ho] at hl; exact Nat.le_of_succ_le hl)
  | depart u hd hl =>
    have ho (r : DepartureRecord) : (s.outbound ++ [r]).length ≤ 16 := by rw [List.length_append]; exact hl
    exact ((h.withOutbound (ho _)).withCases (h.cases.markDeparted _)).setTote ..
  | endDrain u hd hr hf => exact h.setTote ..
  | clear hm => exact ((h.withCases .empty).withTotes h.totes.floorCleared).withOutbound (Nat.zero_le 16)
  | claim p u c hp hc hs => exact h.setCase hc _
  | renew p u c k hp hc hs hh hq => exact h.setCase hc _
  | claimAudit p u c hp hc hs hg => exact (h.setCase hc _).outOfTote ..
  | submit p u c observed obs hp hm hc hh hn hl =>
    exact ((h.setCase hc _).withGrading _ s.engine).startComputation
  | giveBack u c hc => exact h.setCase hc _
  | holdLapse u c k hc hh => exact h.setCase hc _
  | handBack u c r o hc hr => exact (h.setTote ..).setCase hc _
  | reserve u c cls v hc hs hcls ha => exact (h.setTote ..).setCase hc _
  | place u c r hc hs hr => exact (h.setTote ..).setCase hc _
  | swap u hu => exact h.setTote ..
  | stopRise => exact ⟨h.cases.mapValues Case.dwellNotDue, h.totes, h.toteMap, h.categories, h.weights, h.notices, h.outbound⟩
  | stopFall =>
    exact ⟨h.cases.mapValues fun c => c.rearmed (satAdd s.secondCount s.settings.dwellLimit), h.totes, h.toteMap, h.categories, h.weights, h.notices, h.outbound⟩
  | mark n b => exact h.withCases (h.cases.mapValues _)
  | start => exact h.startComputation
  | completeFirst k c he hk hc =>
    exact TablesCanonical.nextComputation (s := s.recordFirst k c)
      ⟨h.cases.rewrite hc _, h.totes, h.toteMap, h.categories, h.weights, h.notices, h.outbound⟩
  | completeAudit k c first he hk hc hf => exact (h.setCase hc _).nextComputation
  | reset roles rate stop hi =>
    refine ⟨.empty, .empty, rfl, rfl, ⟨rfl, fun _ he => nomatch he⟩, fun p => ?_, Nat.zero_le 16⟩
    rw [State.port_withPending, State.port_withFreeCount, State.port_afterReset]
    rfl
  | count | sweep | clock | sampler | settings | live | config | advance =>
    exact ⟨h.cases, h.totes, h.toteMap, h.categories, h.weights, h.notices, h.outbound⟩

theorem Arrival.keeps_canonical (ha : Arrival s t) (h : TablesCanonical s) : TablesCanonical t := by
  cases ha with
  | opens a _ hc hl => exact h.withCases (h.cases.insert hc hl _)
  | revives u c hc _ => exact h.setCase hc _

end

/-- Settles O57: every elementary change writes its tables through the operations that keep their canonical form. -/
theorem stepKeepsTablesCanonical : Obligations.StepKeepsTablesCanonical := by
  intro s t hs h
  refine step_keeps (P := Canonical) (fun _ _ => id) (fun i u v hc hu => ?_) (fun u v ha hu => ?_) hs h
  · exact (canonical_iff v).mpr (hc.keeps_canonical ((canonical_iff u).mp hu))
  · exact (canonical_iff v).mpr (ha.keeps_canonical ((canonical_iff u).mp hu))

end Sys2Proof.Machine
end

section
/-! SUPPORT. The law of the grading engine, and that every step keeps it. -/

namespace Sys2Proof.Machine

section
variable {s t : State} {u : Tag} {c c' : Case}

/-! The parts of a case -/

theorem Case.partsFit_of_state (hh : c.holder = none) (hr : c.reservation = none) (h1 : c.state ≠ .onBench)
    (h2 : c.state ≠ .onAudit) (h3 : c.state ≠ .routed) : c.partsFit := by
  simp [Case.partsFit, hh, hr, h1, h2, h3]

theorem Case.partsFit.holder_none (h : c.partsFit) (h1 : c.state ≠ .onBench) (h2 : c.state ≠ .onAudit) : c.holder = none := by
  have := h.1
  simpa [h1, h2] using this

theorem Case.partsFit.reservation_none (h : c.partsFit) (h1 : c.state ≠ .routed) : c.reservation = none := by
  have := h.2
  simpa [h1] using this

theorem Case.partsFit.routed (h : c.partsFit) {r : Reservation} (hr : c.reservation = some r) : c.state = .routed :=
  h.2.mp (by rw [hr]; rfl)

theorem Case.partsFit.held (h : c.partsFit) {k : Hold} (hh : c.holder = some k) : c.state = .onBench ∨ c.state = .onAudit :=
  h.1.mp (by rw [hh]; rfl)

theorem Case.isHeldBy_iff {p : Port} : c.isHeldBy p = true ↔ ∃ h, c.holder = some h ∧ h.port = p := by
  rw [Case.isHeldBy, decide_eq_true_eq, Option.map_eq_some_iff]

theorem Case.partsFit.returned (h : c.partsFit) : c.returned.partsFit := by
  have hr := h.2
  unfold Case.returned
  split <;> simp_all [Case.partsFit]

theorem Case.returned_grading : c.returned.state = .grading ↔ c.state = .grading := by
  unfold Case.returned
  split <;> simp_all

theorem Case.placedState_cases (c : Case) : c.placedState = .placed ∨ c.placedState = .auditWait := by
  unfold Case.placedState
  split
  · exact .inr rfl
  · exact .inl rfl

/-- R26 and R3 through every change of a case; the engine computes only for GRADING cases. -/
theorem CaseChange.partsFit (h : CaseChange s u c c') (hf : c.partsFit)
    (hg : ∀ k, s.engine = some k → k.submission.tag = u → c.state = .grading) : c'.partsFit := by
  cases h with
  | same => exact hf
  | lapse hs => exact Case.partsFit_of_state (hf.holder_none (by simp [hs]) (by simp [hs])) (hf.reservation_none (by simp [hs])) (by simp) (by simp) (by simp)
  | force bd g hs hq =>
    have h1 : c.state ≠ .onBench ∧ c.state ≠ .onAudit ∧ c.state ≠ .routed := by rcases hs with hs | hs <;> simp [hs]
    exact Case.partsFit_of_state (hf.holder_none h1.1 h1.2.1) (hf.reservation_none h1.2.2) (by simp [Case.forced]) (by simp [Case.forced])
      (by simp [Case.forced])
  | claim p hp hs => exact ⟨by simp [Case.heldBy], by simp [Case.heldBy, hf.reservation_none (by simp [hs])]⟩
  | renew p k hp hs hh hq => exact ⟨by simpa using hs, hf.2⟩
  | claimAudit p hp hs hg' => exact ⟨by simp [Case.heldBy], by simp [Case.heldBy, hf.reservation_none (by simp [hs])]⟩
  | submit p hh =>
    obtain ⟨k, hk, -⟩ := Case.isHeldBy_iff.mp hh
    have hr : c.reservation = none := hf.reservation_none (by rcases hf.held hk with h | h <;> simp [h])
    exact Case.partsFit_of_state rfl hr (by simp) (by simp) (by simp)
  | giveBack => exact hf.returned
  | holdLapse k hh => exact hf.returned
  | handBack r o hr =>
    have hs := hf.routed hr
    exact Case.partsFit_of_state (hf.holder_none (by simp [hs]) (by simp [hs])) rfl (by simp [Case.unreserved]) (by simp [Case.unreserved])
      (by simp [Case.unreserved])
  | reserve cls v hs hcls => exact ⟨by simp [hf.holder_none (by simp [hs]) (by simp [hs])], by simp⟩
  | place r hs hr =>
    have hh := hf.holder_none (by simp [hs]) (by simp [hs])
    exact Case.partsFit_of_state hh rfl (by rcases c.placedState_cases with h | h <;> simp [h])
      (by rcases c.placedState_cases with h | h <;> simp [h]) (by rcases c.placedState_cases with h | h <;> simp [h])
  | depart v hm => exact hf
  | dwellNotDue => exact ⟨hf.1, by simpa [Case.dwellNotDue] using hf.2⟩
  | rearm =>
    unfold Case.rearmed
    split
    · exact ⟨hf.1, by simpa using hf.2⟩
    · exact hf
  | mark n b => exact ⟨by simpa [Case.markDue] using hf.1, by simpa [Case.markDue] using hf.2⟩
  | first k he hk ht =>
    have hs := hg k he ht
    exact Case.partsFit_of_state (hf.holder_none (by simp [hs]) (by simp [hs])) (hf.reservation_none (by simp [hs])) (by simp [Case.firstGraded])
      (by simp [Case.firstGraded]) (by simp [Case.firstGraded])
  | audit k first he hk ht hff =>
    have hs := hg k he ht
    exact Case.partsFit_of_state (hf.holder_none (by simp [hs]) (by simp [hs])) (hf.reservation_none (by simp [hs])) (by simp [Case.auditGraded])
      (by simp [Case.auditGraded]) (by simp [Case.auditGraded])

/-! The law without the clause on an IDLE engine -/

/-- The law of the grading engine, clause by clause, but that an IDLE engine leaves nothing waiting. -/
structure QueueLaw (s : State) : Prop where
  parts : ∀ t c, s.case? t = some c → c.partsFit
  grading : ∀ t c, s.case? t = some c → (c.state = .grading ↔ ∃ x ∈ s.submissions, x.tag = t)
  named : ∀ x ∈ s.submissions, (s.case? x.tag).isSome = true
  tags : (s.submissions.map (·.tag)).Nodup
  graders : (s.submissions.map (·.grader)).Nodup
  config : s.mode = .config → s.submissions = []

theorem gradingLaw_iff (s : State) : GradingLaw s ↔ QueueLaw s ∧ (s.engine = none → s.gradingQueue = []) := by
  constructor
  · rintro ⟨h1, h2, h3, h4, h5, h6, h7⟩
    exact ⟨⟨h1, h2, h3, h4, h5, h7⟩, h6⟩
  · rintro ⟨⟨h1, h2, h3, h4, h5, h7⟩, h6⟩
    exact ⟨h1, h2, h3, h4, h5, h6, h7⟩

theorem QueueLaw.congr (h : QueueLaw s) (hc : t.cases = s.cases) (hs : t.submissions = s.submissions) (hm : t.mode = s.mode) :
    QueueLaw t := by
  obtain ⟨h1, h2, h3, h4, h5, h6⟩ := h
  simp only [← State.case?_of_cases hc, ← hs, ← hm] at h1 h2 h3 h4 h5 h6
  exact ⟨h1, h2, h3, h4, h5, h6⟩

/-- A case rewritten with parts that fit, and neither brought into GRADING nor out of it. -/
theorem QueueLaw.setCase (h : QueueLaw s) (hc : s.case? u = some c) (hf : c'.partsFit)
    (hg : c'.state = .grading ↔ c.state = .grading) : QueueLaw (s.setCase u c') where
  parts v d hd := by
    rw [State.case?_setCase] at hd
    split at hd
    · cases hd; exact hf
    · exact h.parts v d hd
  grading v d hd := by
    rw [State.case?_setCase] at hd
    split at hd
    next hv => subst hv; cases hd; exact hg.trans (h.grading v c hc)
    next => exact h.grading v d hd
  named x hx := by
    rw [State.case?_setCase]
    split
    · rfl
    · exact h.named x hx
  tags := h.tags
  graders := h.graders
  config := h.config

/-- A case without a submission leaves the table. -/
theorem QueueLaw.erase (h : QueueLaw s) (hc : s.case? u = some c) (hg : c.state ≠ .grading) :
    QueueLaw (s.withCases (s.cases.erase u.toNat)) where
  parts v d hd := by
    rw [State.case?_erase] at hd
    split at hd
    · cases hd
    · exact h.parts v d hd
  grading v d hd := by
    rw [State.case?_erase] at hd
    split at hd
    · cases hd
    · exact h.grading v d hd
  named x hx := by
    rw [State.case?_erase, if_neg]
    · exact h.named x hx
    · intro hv
      exact hg ((h.grading u c hc).mpr ⟨x, hx, hv⟩)
  tags := h.tags
  graders := h.graders
  config := h.config

/-- A new case that is not GRADING, under a tag that no case had, has no submission. -/
theorem QueueLaw.newCase (h : QueueLaw s) (hc : s.case? u = none) (hf : c.partsFit) (hg : c.state ≠ .grading) :
    QueueLaw (s.setCase u c) where
  parts v d hd := by
    rw [State.case?_setCase] at hd
    split at hd
    · cases hd; exact hf
    · exact h.parts v d hd
  grading v d hd := by
    rw [State.case?_setCase] at hd
    split at hd
    next hv =>
      subst hv; cases hd
      refine iff_of_false hg fun ⟨x, hx, ht⟩ => ?_
      have hn := h.named x hx
      rw [ht, hc] at hn
      cases hn
    next => exact h.grading v d hd
  named x hx := by
    rw [State.case?_setCase]
    split
    · rfl
    · exact h.named x hx
  tags := h.tags
  graders := h.graders
  config := h.config

/-! Submissions -/

theorem State.submissions_of_engine {k : Computation} (he : s.engine = some k) : s.submissions = k.submission :: s.gradingQueue := by
  simp [State.submissions, he]

theorem State.submissions_of_idle (he : s.engine = none) : s.submissions = s.gradingQueue := by
  simp [State.submissions, he]

/-- The engine takes a submission from the queue: all submissions stay, in their order (R46). -/
theorem State.submissions_startComputation (s : State) : s.startComputation.submissions = s.submissions := by
  obtain h | ⟨x, rest, c, he, hq, -, h⟩ := s.startComputation_cases <;> rw [h]
  rw [State.submissions_of_idle he, hq, State.submissions_of_engine (State.withEngine_engine ..)]
  rfl

theorem State.mode_startComputation (s : State) : s.startComputation.mode = s.mode := by
  rw [State.startComputation_eq]; rfl

/-- An IDLE engine takes what waits, so the whole law holds after the start of a computation (R46). -/
theorem QueueLaw.startComputation (h : QueueLaw s) : GradingLaw s.startComputation := by
  rw [gradingLaw_iff]
  refine ⟨h.congr s.cases_startComputation s.submissions_startComputation s.mode_startComputation, fun hn => ?_⟩
  cases he : s.engine with
  | some k =>
    have : s.startComputation = s := by unfold State.startComputation; simp [he]
    rw [this, he] at hn
    cases hn
  | none =>
    cases hq : s.gradingQueue with
    | nil =>
      have : s.startComputation = s := by unfold State.startComputation; simp [he, hq]
      rw [this, hq]
    | cons x rest =>
      have hx := h.named x (by rw [State.submissions_of_idle he, hq]; simp)
      obtain ⟨c, hc⟩ := Option.isSome_iff_exists.mp hx
      have : s.startComputation.engine ≠ none := by unfold State.startComputation; simp [he, hq, hc]
      exact absurd hn this

/-- A case that the engine computes for is GRADING. -/
theorem QueueLaw.computed (h : QueueLaw s) {k : Computation} (he : s.engine = some k) (ht : k.submission.tag = u)
    (hc : s.case? u = some c) : c.state = .grading :=
  (h.grading u c hc).mpr ⟨k.submission, by simp [State.submissions_of_engine he], ht⟩

/-- What `CaseChange.partsFit` asks of the engine. -/
theorem QueueLaw.partsFit (h : QueueLaw s) (hc : s.case? u = some c) (hch : CaseChange s u c c') : c'.partsFit :=
  hch.partsFit (h.parts u c hc) fun _ he ht => h.computed he ht hc

theorem QueueLaw.mapValues (h : QueueLaw s) {f : Case → Case} (hf : ∀ v c, CaseChange s v c (f c))
    (hg : ∀ c, (f c).state = c.state) : QueueLaw (s.withCases (s.cases.mapValues f)) where
  parts v d hd := by
    rw [State.case?_withCases, Store.find?_mapValues, Option.map_eq_some_iff] at hd
    obtain ⟨c, hc, rfl⟩ := hd
    exact h.partsFit hc (hf v c)
  grading v d hd := by
    rw [State.case?_withCases, Store.find?_mapValues, Option.map_eq_some_iff] at hd
    obtain ⟨c, hc, rfl⟩ := hd
    rw [hg]
    exact h.grading v c hc
  named x hx := by
    rw [State.case?_withCases, Store.find?_mapValues, Option.isSome_map]
    exact h.named x hx
  tags := h.tags
  graders := h.graders
  config := h.config

theorem QueueLaw.rewrite (h : QueueLaw s) (hc : s.case? u = some c) (hch : CaseChange s u c c')
    (hg : c'.state = .grading ↔ c.state = .grading) : QueueLaw (s.setCase u c') :=
  h.setCase hc (h.partsFit hc hch) hg

/-- A submission joins the queue as its case becomes GRADING (R38, R45). -/
theorem QueueLaw.submit (h : QueueLaw s) {p : Port} (hm : s.mode = .live) (hc : s.case? u = some c) (hh : c.isHeldBy p = true)
    (hn : s.portHasSubmission p = false) (x : Submission) (hx : x.tag = u) (hp : x.grader = p) :
    QueueLaw ((s.setCase u { c with holder := none, state := .grading }).withGradingQueue (s.gradingQueue ++ [x])) := by
  have hsub : ((s.setCase u { c with holder := none, state := .grading }).withGradingQueue (s.gradingQueue ++ [x])).submissions =
      s.submissions ++ [x] := by simp [State.submissions]
  have hng : c.state ≠ .grading := by
    obtain ⟨k, hk, -⟩ := Case.isHeldBy_iff.mp hh
    rcases (h.parts u c hc).held hk with h | h <;> simp [h]
  have hnew : ¬ ∃ y ∈ s.submissions, y.tag = u := fun hy => hng ((h.grading u c hc).mpr hy)
  constructor
  · intro v d hd
    rw [State.case?_withGradingQueue, State.case?_setCase] at hd
    split at hd
    · cases hd; exact h.partsFit hc (.submit p hh)
    · exact h.parts v d hd
  · intro v d hd
    rw [hsub]
    rw [State.case?_withGradingQueue, State.case?_setCase] at hd
    split at hd
    next hv => subst hv; cases hd; exact iff_of_true rfl ⟨x, by simp, hx⟩
    next hv =>
      rw [h.grading v d hd]
      simp [or_and_right, exists_or, hx, Ne.symm hv]
  · intro y hy
    rw [State.case?_withGradingQueue, State.case?_setCase]
    split
    · rfl
    next hv =>
      rw [hsub, List.mem_append, List.mem_singleton] at hy
      obtain hy | rfl := hy
      · exact h.named y hy
      · exact absurd hx hv
  · rw [hsub, List.map_append, List.map_singleton, List.nodup_append]
    refine ⟨h.tags, List.nodup_singleton _, fun a ha b hb hab => hnew ?_⟩
    obtain ⟨y, hy, rfl⟩ := List.mem_map.mp ha
    exact ⟨y, hy, by rw [hab, List.mem_singleton.mp hb, hx]⟩
  · rw [hsub, List.map_append, List.map_singleton, List.nodup_append]
    refine ⟨h.graders, List.nodup_singleton _, fun a ha b hb hab => ?_⟩
    obtain ⟨y, hy, rfl⟩ := List.mem_map.mp ha
    have hy' : y.grader ≠ p := by
      simp only [State.portHasSubmission, List.any_eq_false, decide_eq_true_eq] at hn
      exact hn y hy
    exact hy' (by rw [hab, List.mem_singleton.mp hb, hp])
  · intro hcfg
    rw [State.withGradingQueue_mode, State.setCase_mode, hm] at hcfg
    cases hcfg

/-- A completion takes the case out of GRADING and its submission out of the engine (R65, R66). -/
theorem QueueLaw.complete (h : QueueLaw s) {k : Computation} (he : s.engine = some k) (hc : s.case? k.submission.tag = some c)
    (hch : CaseChange s k.submission.tag c c') (hg : c'.state ≠ .grading) :
    QueueLaw ((s.setCase k.submission.tag c').withEngine none) := by
  have hsub : ((s.setCase k.submission.tag c').withEngine none).submissions = s.gradingQueue := rfl
  have hall := State.submissions_of_engine he
  have htags := h.tags
  have hgraders := h.graders
  rw [hall, List.map_cons, List.nodup_cons] at htags hgraders
  have hnone : ¬ ∃ x ∈ s.gradingQueue, x.tag = k.submission.tag := fun ⟨x, hx, ht⟩ =>
    htags.1 (List.mem_map.mpr ⟨x, hx, ht⟩)
  constructor
  · intro v d hd
    rw [State.case?_withEngine, State.case?_setCase] at hd
    split at hd
    · cases hd; exact h.partsFit hc hch
    · exact h.parts v d hd
  · intro v d hd
    rw [hsub]
    rw [State.case?_withEngine, State.case?_setCase] at hd
    split at hd
    next hv => subst hv; cases hd; exact iff_of_false hg hnone
    next hv =>
      rw [h.grading v d hd, hall]
      simp [Ne.symm hv]
  · intro x hx
    rw [State.case?_withEngine, State.case?_setCase]
    split
    · rfl
    · exact h.named x (by rw [hall]; exact List.mem_cons_of_mem _ hx)
  · exact htags.2
  · exact hgraders.2
  · intro hcfg
    have hnil := h.config hcfg
    rw [hall] at hnil
    cases hnil

theorem QueueLaw.departed (h : QueueLaw s) (u : ToteNo) : QueueLaw (s.departed u) where
  parts v d hd := by
    rw [State.case?_departed] at hd
    split at hd
    · obtain ⟨c, hc, rfl⟩ := Option.map_eq_some_iff.mp hd
      exact h.parts v c hc
    · exact h.parts v d hd
  grading v d hd := by
    rw [State.case?_departed] at hd
    split at hd
    · obtain ⟨c, hc, rfl⟩ := Option.map_eq_some_iff.mp hd
      exact h.grading v c hc
    · exact h.grading v d hd
  named x hx := by
    rw [State.case?_departed]
    split
    · rw [Option.isSome_map]; exact h.named x hx
    · exact h.named x hx
  tags := h.tags
  graders := h.graders
  config := h.config

/-! Every change -/

theorem Case.dwellNotDue_state (c : Case) : c.dwellNotDue.state = c.state := rfl

theorem Case.rearmed_state (c : Case) (n : Nat) : (c.rearmed n).state = c.state := by
  unfold Case.rearmed; split <;> rfl

/-- What a change of the case table alone keeps of the whole law. -/
theorem GradingLaw.of_queueLaw (h : GradingLaw s) (hq : QueueLaw t) (he : t.engine = s.engine) (hg : t.gradingQueue = s.gradingQueue) :
    GradingLaw t := (gradingLaw_iff t).mpr ⟨hq, fun hn => by
      rw [gradingLaw_iff] at h
      rw [he] at hn
      rw [hg]
      exact h.2 hn⟩

theorem Change.keeps_gradingLaw {i : Instr} (hch : Change i s t) (h : GradingLaw s) : GradingLaw t := by
  have hq := ((gradingLaw_iff s).mp h).1
  cases hch with
  | quiet hqt => rw [hqt.rest]; exact h
  | drop u c hc hs =>
    exact h.of_queueLaw (hq.erase hc (by rcases hs with hs | hs | ⟨hs, -⟩ <;> simp [hs])) rfl rfl
  | lapse u c hc hs => exact h.of_queueLaw (hq.rewrite hc (.lapse hs) (by simp [hs])) rfl rfl
  | force u c bd g hc hs hb =>
    rw [State.outOfTote_eq]
    have hl := hq.rewrite hc (.force bd g hs hb) (by rcases hs with hs | hs <;> simp [hs, Case.forced])
    exact h.of_queueLaw (hl.congr rfl rfl rfl) rfl rfl
  | depart u _ _ => exact h.of_queueLaw (hq.departed u) rfl rfl
  | live => exact h.of_queueLaw ⟨hq.parts, hq.grading, hq.named, hq.tags, hq.graders, (fun hm => by cases hm)⟩ rfl rfl
  | config hn => exact h.of_queueLaw ⟨hq.parts, hq.grading, hq.named, hq.tags, hq.graders, fun _ => hn⟩ rfl rfl
  | clear hm =>
    have hn := hq.config hm
    have hnone : ∀ x ∈ s.submissions, False := fun x hx => by rw [hn] at hx; cases hx
    exact h.of_queueLaw ⟨(fun _ _ hc => nomatch hc), (fun _ _ hc => nomatch hc), fun x hx => (hnone x hx).elim, hq.tags, hq.graders,
      fun _ => hn⟩ rfl rfl
  | claim p u c hp hc hs => exact h.of_queueLaw (hq.rewrite hc (.claim p hp hs) (by simp [hs, Case.heldBy])) rfl rfl
  | renew p u c k hp hc hs hh hk => exact h.of_queueLaw (hq.rewrite hc (.renew p k hp hs hh hk) Iff.rfl) rfl rfl
  | claimAudit p u c hp hc hs hg =>
    rw [State.outOfTote_eq]
    have hl := hq.rewrite hc (.claimAudit p hp hs hg) (by simp [hs, Case.heldBy])
    exact h.of_queueLaw (hl.congr rfl rfl rfl) rfl rfl
  | submit p u c observed obs hp hm hc hh hn hl => exact (hq.submit hm hc hh hn _ rfl rfl).startComputation
  | giveBack u c hc => exact h.of_queueLaw (hq.rewrite hc .giveBack Case.returned_grading) rfl rfl
  | holdLapse u c k hc hh => exact h.of_queueLaw (hq.rewrite hc (.holdLapse k hh) Case.returned_grading) rfl rfl
  | handBack u c r o hc hr =>
    have hs := (hq.parts u c hc).routed hr
    have hl := hq.rewrite hc (.handBack r o hr) (by simp [hs, Case.unreserved])
    exact h.of_queueLaw (hl.congr rfl rfl rfl) rfl rfl
  | reserve u c cls v hc hs hcls ha =>
    have hl := hq.rewrite hc (.reserve cls v hs hcls) (by simp [hs])
    exact h.of_queueLaw (hl.congr rfl rfl rfl) rfl rfl
  | place u c r hc hs hr =>
    have hl := hq.rewrite hc (.place r hs hr) (by rcases c.placedState_cases with h | h <;> simp [hs, h])
    exact h.of_queueLaw (hl.congr rfl rfl rfl) rfl rfl
  | stopRise =>
    exact h.of_queueLaw ((hq.mapValues (fun _ _ => .dwellNotDue) Case.dwellNotDue_state).congr rfl rfl rfl) rfl rfl
  | stopFall =>
    exact h.of_queueLaw ((hq.mapValues (fun _ _ => .rearm) fun c => c.rearmed_state _).congr rfl rfl rfl) rfl rfl
  | mark n b => exact h.of_queueLaw (hq.mapValues (fun _ _ => .mark n b) fun _ => rfl) rfl rfl
  | start => exact hq.startComputation
  | completeFirst k c he hk hc =>
    have hl := hq.complete he hc (.first k he hk rfl) (by simp [Case.firstGraded])
    exact QueueLaw.startComputation (hl.congr rfl rfl rfl)
  | completeAudit k c first he hk hc hf =>
    exact (hq.complete he hc (.audit k first he hk rfl hf) (by simp [Case.auditGraded])).startComputation
  | reset roles rate stop hi =>
    exact ⟨(fun _ _ hc => nomatch hc), (fun _ _ hc => nomatch hc), (fun _ hx => nomatch hx), List.nodup_nil, List.nodup_nil, fun _ => rfl, fun _ => rfl⟩
  | _ => exact h.of_queueLaw (hq.congr rfl rfl rfl) rfl rfl

theorem Arrival.keeps_gradingLaw (ha : Arrival s t) (h : GradingLaw s) : GradingLaw t := by
  have hq := ((gradingLaw_iff s).mp h).1
  cases ha with
  | opens a _ hc _ =>
    exact h.of_queueLaw (hq.newCase hc (Case.partsFit_of_state rfl rfl nofun nofun nofun) nofun) rfl rfl
  | revives u c hc hs =>
    have hf := hq.parts u c hc
    exact h.of_queueLaw (hq.setCase hc
      (Case.partsFit_of_state (hf.holder_none (by simp [hs]) (by simp [hs])) (hf.reservation_none (by simp [hs])) nofun nofun nofun)
      (by simp [hs])) rfl rfl

end

/-- Settles O58: a change of a case keeps its parts fitting, and only a submission and a completion touch GRADING. -/
theorem stepKeepsTheGradingLaw : Obligations.StepKeepsTheGradingLaw := fun _ _ hs h =>
  step_keeps (fun _ _ => id) (fun _ _ _ hc => hc.keeps_gradingLaw) (fun _ _ ha => ha.keeps_gradingLaw) hs h

end Sys2Proof.Machine
end

section
/-! SUPPORT. The grading history of cases, and that every step keeps it. -/

namespace Sys2Proof.Machine

section
variable {s t : State} {u : Tag} {c c' d : Case}

/-! The history of one case -/

/-- What the state of a case says of its grading so far: the last clause of `Case.historyFits`. -/
def Case.stageFits (c : Case) : Prop :=
  match c.state with
  | .expected | .lapsed | .onBench => c.ungraded
  | .grading => c.ungraded ∨ (c.graded ∧ c.awaitsAudit)
  | .graded | .placed => c.graded
  | .routed => c.graded ∧ (c.routeClass = some .audit → c.awaitsAudit)
  | .auditWait | .onAudit => c.graded ∧ c.awaitsAudit

theorem Case.historyFits_iff (c : Case) : c.historyFits ↔
    (c.awaitsAudit → c.finalBand = some .a ∨ c.finalBand = some .b) ∧
    (∀ h g, c.state = .onAudit → c.holder = some h → c.firstGrade = some g → h.port ≠ g.grader) ∧
    (∀ a r g, c.audit = some a → a.resolution = some r → c.firstGrade = some g → r.auditor ≠ g.grader) ∧ c.stageFits := by
  unfold Case.historyFits Case.stageFits
  constructor <;> exact id

theorem Case.stageFits_ungraded (h : c.state = .expected ∨ c.state = .lapsed ∨ c.state = .onBench) :
    c.stageFits ↔ c.ungraded := by
  unfold Case.stageFits; rcases h with h | h | h <;> rw [h]

theorem Case.stageFits_graded (h : c.state = .graded ∨ c.state = .placed) : c.stageFits ↔ c.graded := by
  unfold Case.stageFits; rcases h with h | h <;> rw [h]

theorem Case.stageFits_audit (h : c.state = .auditWait ∨ c.state = .onAudit) : c.stageFits ↔ c.graded ∧ c.awaitsAudit := by
  unfold Case.stageFits; rcases h with h | h <;> rw [h]

theorem Case.stageFits_grading (h : c.state = .grading) : c.stageFits ↔ c.ungraded ∨ (c.graded ∧ c.awaitsAudit) := by
  unfold Case.stageFits; rw [h]

theorem Case.stageFits_routed (h : c.state = .routed) :
    c.stageFits ↔ c.graded ∧ (c.routeClass = some .audit → c.awaitsAudit) := by
  unfold Case.stageFits; rw [h]

/-- The parts of a case that its history reads, but for state, holder and stage. -/
structure SameVerdict (c c' : Case) : Prop where
  firstGrade : c'.firstGrade = c.firstGrade
  audit : c'.audit = c.audit
  finalBand : c'.finalBand = c.finalBand
  refundGate : c'.refundGate = c.refundGate

theorem SameVerdict.awaitsAudit (h : SameVerdict c c') : c'.awaitsAudit ↔ c.awaitsAudit := by
  simp only [Case.awaitsAudit, h.audit]

theorem SameVerdict.graded (h : SameVerdict c c') : c'.graded ↔ c.graded := by
  simp only [Case.graded, h.firstGrade, h.audit, h.finalBand, h.refundGate]

theorem SameVerdict.ungraded (h : SameVerdict c c') (hl : c'.lastLapsedTote = c.lastLapsedTote) (hr : c'.routeClass = c.routeClass) :
    c'.ungraded ↔ c.ungraded := by
  simp only [Case.ungraded, h.firstGrade, h.audit, h.finalBand, h.refundGate, hl, hr]

/-- A case whose verdicts stay keeps its history where its new state asks for no more than it has. -/
theorem SameVerdict.historyFits (h : SameVerdict c c') (hf : c.historyFits) (hs : c'.stageFits)
    (ha : ∀ k g, c'.state = .onAudit → c'.holder = some k → c.firstGrade = some g → k.port ≠ g.grader) : c'.historyFits := by
  obtain ⟨hband, -, hres, -⟩ := c.historyFits_iff.mp hf
  rw [Case.historyFits_iff, h.awaitsAudit, h.audit, h.firstGrade, h.finalBand]
  exact ⟨hband, ha, hres, hs⟩

theorem SameVerdict.historyFits_off (h : SameVerdict c c') (hf : c.historyFits) (hs : c'.stageFits) (hne : c'.state ≠ .onAudit) :
    c'.historyFits :=
  h.historyFits hf hs fun _ _ ha => absurd ha hne

/-- The stage of a case whose verdicts and state stay. -/
theorem SameVerdict.stageFits (h : SameVerdict c c') (hs : c'.state = c.state) (hl : c'.lastLapsedTote = c.lastLapsedTote)
    (hr : c'.routeClass = c.routeClass) (hf : c.historyFits) : c'.stageFits := by
  have hst := (c.historyFits_iff.mp hf).2.2.2
  unfold Case.stageFits at hst ⊢
  rw [hs, h.graded, h.ungraded hl hr, hr]
  simp only [h.awaitsAudit]
  exact hst

theorem Case.historyFits.ungraded (hf : c.historyFits) (h : c.state = .expected ∨ c.state = .lapsed ∨ c.state = .onBench) :
    c.ungraded := (Case.stageFits_ungraded h).mp (c.historyFits_iff.mp hf).2.2.2

theorem Case.historyFits.graded (hf : c.historyFits) (h : c.state = .graded ∨ c.state = .placed) : c.graded :=
  (Case.stageFits_graded h).mp (c.historyFits_iff.mp hf).2.2.2

theorem Case.historyFits.audit (hf : c.historyFits) (h : c.state = .auditWait ∨ c.state = .onAudit) : c.graded ∧ c.awaitsAudit :=
  (Case.stageFits_audit h).mp (c.historyFits_iff.mp hf).2.2.2

theorem Case.historyFits.grading (hf : c.historyFits) (h : c.state = .grading) : c.ungraded ∨ (c.graded ∧ c.awaitsAudit) :=
  (Case.stageFits_grading h).mp (c.historyFits_iff.mp hf).2.2.2

theorem Case.historyFits.routed (hf : c.historyFits) (h : c.state = .routed) :
    c.graded ∧ (c.routeClass = some .audit → c.awaitsAudit) :=
  (Case.stageFits_routed h).mp (c.historyFits_iff.mp hf).2.2.2

theorem Case.historyFits.other_auditor (hf : c.historyFits) {k : Hold} {g : GradeRecord} (hs : c.state = .onAudit)
    (hk : c.holder = some k) (hg : c.firstGrade = some g) : k.port ≠ g.grader :=
  (c.historyFits_iff.mp hf).2.1 k g hs hk hg

theorem Case.graded.not_ungraded (h : c.graded) : ¬ c.ungraded := fun hu => by
  have h1 := h.1
  rw [hu.1] at h1
  cases h1

theorem Case.historyFits.no_audit_in_q (hf : c.historyFits) (hq : c.finalBand = some .q) : ¬ c.awaitsAudit := fun ha => by
  obtain h | h := (c.historyFits_iff.mp hf).1 ha <;> rw [hq] at h <;> cases h

/-- What the end of a hold leaves, by the state of the case (R34). -/
theorem Case.returned_cases (c : Case) :
    (c.state = .onBench ∧ c.returned = { c with holder := none, state := .expected }) ∨
    (c.state = .onAudit ∧ c.returned = { c with holder := none, state := .auditWait, location := .none }) ∨
    (c.state ≠ .onBench ∧ c.state ≠ .onAudit ∧ c.returned = { c with holder := none }) := by
  unfold Case.returned
  cases h : c.state <;> simp

/-- What a submission says of its case: FIRST exactly when it is ungraded, and no AUDIT from the first grader (R31, R44). -/
def Submission.fits (x : Submission) (c : Case) : Prop :=
  (x.kind = .first ↔ c.ungraded) ∧ ∀ g, x.kind = .audit → c.firstGrade = some g → x.grader ≠ g.grader

/-- What the engine's submission says of the case under a tag. -/
def EngineFits (s : State) (u : Tag) (c : Case) : Prop :=
  ∀ k, s.engine = some k → k.submission.tag = u → c.state = .grading ∧ k.submission.fits c

theorem not_awaitsAudit_of_resolved {a : AuditPart} {r : Resolution} (ha : c.audit = some a) (hr : a.resolution = some r) :
    ¬ c.awaitsAudit := by
  rintro ⟨a', ha', -, hn⟩
  cases ha.symm.trans ha'
  rw [hr] at hn
  cases hn

/-- An audit completion finds the part that its selection left (R5, R66). -/
theorem EngineFits.audit (he : EngineFits s u c) (hf : c.historyFits) {k : Computation} (hk : s.engine = some k)
    (ha : k.submission.kind = .audit) (ht : k.submission.tag = u) : c.graded ∧ c.awaitsAudit := by
  obtain ⟨hs, hx, -⟩ := he k hk ht
  refine (hf.grading hs).resolve_left fun hu => ?_
  have := hx.mpr hu
  rw [ha] at this
  cases this

theorem SameVerdict.returned (c : Case) : SameVerdict c c.returned := by
  obtain ⟨-, h⟩ | ⟨-, h⟩ | ⟨-, -, h⟩ := c.returned_cases <;> rw [h] <;> exact ⟨rfl, rfl, rfl, rfl⟩

/-- The end of a hold, with or without the last lapsed holder written. -/
theorem Case.historyFits.returned (hf : c.historyFits) (o : Option Port) :
    ({ c.returned with lastLapsedHolder := o } : Case).historyFits := by
  have hv : SameVerdict c { c.returned with lastLapsedHolder := o } :=
    ⟨(SameVerdict.returned c).1, (SameVerdict.returned c).2, (SameVerdict.returned c).3, (SameVerdict.returned c).4⟩
  obtain ⟨hs, h⟩ | ⟨hs, h⟩ | ⟨h1, h2, h⟩ := c.returned_cases <;> rw [h] at hv ⊢
  · exact hv.historyFits_off hf ((Case.stageFits_ungraded (.inl rfl)).mpr ((hv.ungraded rfl rfl).mpr (hf.ungraded (.inr (.inr hs))))) (by simp)
  · have ha := hf.audit (.inr hs)
    exact hv.historyFits_off hf ((Case.stageFits_audit (.inl rfl)).mpr ⟨hv.graded.mpr ha.1, hv.awaitsAudit.mpr ha.2⟩) (by simp)
  · exact hv.historyFits_off hf (hv.stageFits rfl rfl rfl hf) h2

/-- A first grade's selection comes only with band A or B (R64). -/
theorem band_of_consults {bd : Band} (h : consultsSampler bd = true) : bd = .a ∨ bd = .b := by
  cases bd <;> first | exact .inl rfl | exact .inr rfl | cases h

theorem Case.firstGraded_historyFits (c : Case) (g : GradeRecord) {selected : Bool}
    (h : selected = true → g.band = .a ∨ g.band = .b) : (c.firstGraded g selected).historyFits := by
  rw [Case.historyFits_iff]
  refine ⟨?_, fun _ _ h => (by simp [Case.firstGraded] at h), ?_, (Case.stageFits_graded (.inl rfl)).mpr ⟨rfl, rfl, rfl, rfl⟩⟩
  · rintro ⟨a, ha, hsel, -⟩
    cases ha
    exact (h hsel).imp (congrArg some) (congrArg some)
  · intro a r g' ha hr
    cases ha
    cases hr

theorem Case.auditGraded_historyFits {first second : GradeRecord} (hg : c.graded) (hf : c.firstGrade = some first)
    (hn : second.grader ≠ first.grader) (o : AuditOutcome) : (c.auditGraded first second o).historyFits := by
  rw [Case.historyFits_iff]
  refine ⟨fun ha => (not_awaitsAudit_of_resolved rfl rfl ha).elim, fun _ _ h => (by simp [Case.auditGraded] at h), ?_, (Case.stageFits_graded (.inl rfl)).mpr ⟨hg.1, rfl, rfl, rfl⟩⟩
  intro a r g ha hr hg'
  cases ha
  cases hr
  cases hf.symm.trans hg'
  exact hn

theorem Case.classCalledFor_audit (h : c.classCalledFor = some .audit) : c.awaitsAudit := by
  unfold Case.classCalledFor at h
  split at h
  next hu => exact c.auditUnresolved_iff.mp hu
  next =>
    obtain ⟨bd, -, hbd⟩ := Option.map_eq_some_iff.mp h
    cases bd <;> cases hbd

/-- R3 through every change of a case. -/
theorem CaseChange.historyFits (h : CaseChange s u c c') (hp : c.partsFit) (hf : c.historyFits) (he : EngineFits s u c) :
    c'.historyFits := by
  cases h with
  | same => exact hf
  | lapse hs =>
    have hv : SameVerdict c { c with state := .lapsed } := ⟨rfl, rfl, rfl, rfl⟩
    exact hv.historyFits_off hf ((Case.stageFits_ungraded (.inr (.inl rfl))).mpr ((hv.ungraded rfl rfl).mpr (hf.ungraded (.inl hs)))) (by simp)
  | force bd g hs hq =>
    obtain ⟨-, -, hres, -⟩ := c.historyFits_iff.mp hf
    have hg := hf.graded hs
    rw [Case.historyFits_iff]
    exact ⟨fun ha => (hf.no_audit_in_q hq ha).elim, fun _ _ h => (by simp [Case.forced] at h), hres, (Case.stageFits_graded (.inl rfl)).mpr ⟨hg.1, hg.2.1, rfl, rfl⟩⟩
  | claim p hr hs =>
    have hv : SameVerdict c (c.heldBy (s.newHold p) .onBench) := ⟨rfl, rfl, rfl, rfl⟩
    exact hv.historyFits_off hf ((Case.stageFits_ungraded (.inr (.inr rfl))).mpr ((hv.ungraded rfl rfl).mpr (hf.ungraded (.inl hs)))) (by simp [Case.heldBy])
  | renew p k hr hs hh hq =>
    have hv : SameVerdict c { c with holder := some (s.newHold p) } := ⟨rfl, rfl, rfl, rfl⟩
    refine hv.historyFits hf (hv.stageFits rfl rfl rfl hf) fun k' g hst hk' hg => ?_
    cases hk'
    exact fun hpg => hf.other_auditor hst hh hg (hq.trans hpg)
  | claimAudit p hr hs hg =>
    have ha := hf.audit (.inl hs)
    have hv : SameVerdict c { c.heldBy (s.newHold p) .onAudit with location := .none } := ⟨rfl, rfl, rfl, rfl⟩
    refine hv.historyFits hf ((Case.stageFits_audit (.inr rfl)).mpr ⟨hv.graded.mpr ha.1, hv.awaitsAudit.mpr ha.2⟩)
      fun k' g' _ hk' hg' => ?_
    cases hk'
    intro hpg
    exact hg (by rw [hg']; exact congrArg some hpg.symm)
  | submit p hh =>
    obtain ⟨k, hk, -⟩ := Case.isHeldBy_iff.mp hh
    have hv : SameVerdict c { c with holder := none, state := .grading } := ⟨rfl, rfl, rfl, rfl⟩
    refine hv.historyFits_off hf ((Case.stageFits_grading rfl).mpr ?_) (by simp)
    obtain hs | hs := hp.held hk
    · exact .inl ((hv.ungraded rfl rfl).mpr (hf.ungraded (.inr (.inr hs))))
    · have ha := hf.audit (.inr hs)
      exact .inr ⟨hv.graded.mpr ha.1, hv.awaitsAudit.mpr ha.2⟩
  | giveBack => exact hf.returned c.returned.lastLapsedHolder
  | holdLapse k hh => exact hf.returned (some k.port)
  | handBack r o hr =>
    have hv : SameVerdict c { c.unreserved with lastLapsedTote := o } := ⟨rfl, rfl, rfl, rfl⟩
    exact hv.historyFits_off hf ((Case.stageFits_graded (.inl rfl)).mpr (hv.graded.mpr (hf.routed (hp.routed hr)).1)) (by simp [Case.unreserved])
  | reserve cls v hs hcls =>
    refine SameVerdict.historyFits_off (c := c) ⟨rfl, rfl, rfl, rfl⟩ hf ((Case.stageFits_routed rfl).mpr ⟨hf.graded (.inl hs), fun hc => ?_⟩) (by simp)
    cases hc
    exact Case.classCalledFor_audit hcls
  | place r hs hr =>
    have hg := hf.routed hs
    refine SameVerdict.historyFits (c := c) ⟨rfl, rfl, rfl, rfl⟩ hf ?_ fun k g hst => ?_
    · by_cases hc : c.routeClass = some .audit
      · exact (Case.stageFits_audit (.inl (by simp [Case.placedState, hc]))).mpr ⟨hg.1, hg.2 hc⟩
      · exact (Case.stageFits_graded (.inr (by simp [Case.placedState, hc]))).mpr hg.1
    · obtain h | h := c.placedState_cases <;> cases h.symm.trans hst
  | depart v hm => exact hf
  | dwellNotDue => exact hf
  | rearm =>
    unfold Case.rearmed
    split
    · exact hf
    · exact hf
  | mark n b =>
    have hv : SameVerdict c (c.markDue n b) := ⟨rfl, rfl, rfl, rfl⟩
    refine hv.historyFits hf (hv.stageFits rfl rfl rfl hf) fun k g hst hk hg => ?_
    obtain ⟨k', hk', rfl⟩ := Option.map_eq_some_iff.mp hk
    exact fun hpg => hf.other_auditor hst hk' hg hpg
  | first k hk hkind ht =>
    refine c.firstGraded_historyFits _ fun hsel => band_of_consults ?_
    exact (Bool.and_eq_true_iff.mp hsel).1
  | audit k first hk hkind ht hff =>
    obtain ⟨hs, -, hn⟩ := he k hk ht
    exact Case.auditGraded_historyFits (he.audit hf hk hkind ht).1 hff (hn first hkind hff) _

/-! What is never changed -/

/-- The first grade, a resolved audit part and the selected flag of a case, once written, stay (R4, R5). -/
structure VerdictKept (c c' : Case) : Prop where
  firstGrade : ∀ g, c.firstGrade = some g → c'.firstGrade = some g
  resolved : ∀ a x, c.audit = some a → a.resolution = some x → c'.audit = some a
  selected : ∀ a, c.audit = some a → ∃ a', c'.audit = some a' ∧ a'.selected = a.selected

theorem VerdictKept.of_same (h1 : c'.firstGrade = c.firstGrade) (h2 : c'.audit = c.audit) : VerdictKept c c' :=
  ⟨fun _ h => h1.trans h, fun _ _ h _ => h2.trans h, fun a h => ⟨a, h2.trans h, rfl⟩⟩

theorem VerdictKept.trans (h : VerdictKept c c') (h' : VerdictKept c' d) : VerdictKept c d where
  firstGrade g hg := h'.firstGrade g (h.firstGrade g hg)
  resolved a x ha hx := h'.resolved a x (h.resolved a x ha hx) hx
  selected a ha := by
    obtain ⟨a', ha', hs⟩ := h.selected a ha
    obtain ⟨a'', ha'', hs'⟩ := h'.selected a' ha'
    exact ⟨a'', ha'', hs'.trans hs⟩

theorem CaseChange.verdictKept (h : CaseChange s u c c') (hf : c.historyFits) (he : EngineFits s u c) : VerdictKept c c' := by
  cases h with
  | giveBack => exact .of_same (SameVerdict.returned c).1 (SameVerdict.returned c).2
  | holdLapse => exact .of_same (SameVerdict.returned c).1 (SameVerdict.returned c).2
  | rearm => unfold Case.rearmed; split <;> exact .of_same rfl rfl
  | first k hk hkind ht =>
    have hu : c.ungraded := (he k hk ht).2.1.mp hkind
    exact ⟨fun g hg => (by rw [hu.1] at hg; cases hg), fun a x ha => (by rw [hu.2.1] at ha; cases ha),
      fun a ha => (by rw [hu.2.1] at ha; cases ha)⟩
  | audit k first hk hkind ht hff =>
    have hw := (he.audit hf hk hkind ht).2
    exact ⟨fun g hg => hg, fun a x ha hx => (not_awaitsAudit_of_resolved ha hx hw).elim,
      fun a ha => ⟨_, rfl, by rw [ha]; rfl⟩⟩
  | _ => exact .of_same rfl rfl

/-- While a case is GRADING its submission goes on fitting it. -/
theorem CaseChange.fits (h : CaseChange s u c c') (hp : c.partsFit) (hs : c.state = .grading) (hs' : c'.state = .grading)
    {x : Submission} (hx : x.fits c) : x.fits c' := by
  have hsame (h1 : c'.firstGrade = c.firstGrade) (h2 : c'.ungraded ↔ c.ungraded) : x.fits c' := by
    unfold Submission.fits; rw [h1, h2]; exact hx
  have hh : c.holder = none := hp.holder_none (by simp [hs]) (by simp [hs])
  have hr : c.reservation = none := hp.reservation_none (by simp [hs])
  cases h with
  | giveBack =>
    obtain ⟨hb, -⟩ | ⟨hb, -⟩ | ⟨-, -, hb⟩ := c.returned_cases
    · cases hs.symm.trans hb
    · cases hs.symm.trans hb
    · rw [hb]; exact hx
  | holdLapse k hk => rw [hh] at hk; cases hk
  | rearm =>
    unfold Case.rearmed at *
    split
    next hrt => cases hs.symm.trans hrt
    next => exact hx
  | submit p hk =>
    obtain ⟨k, hk, -⟩ := Case.isHeldBy_iff.mp hk
    rw [hh] at hk; cases hk
  | renew p k hpr hst hk => rw [hh] at hk; cases hk
  | handBack r o hr' => rw [hr] at hr'; cases hr'
  | place r hst => cases hs.symm.trans hst
  | same | depart | dwellNotDue | mark => exact hx
  | _ => cases hs'

/-! The law of all cases -/

theorem historyLaw_iff (s : State) : HistoryLaw s ↔ (∀ t c, s.case? t = some c → c.historyFits) ∧
    ∀ x ∈ s.submissions, ∀ c, s.case? x.tag = some c → x.fits c := Iff.rfl

/-- A submission after a change was there before it, or has just joined the queue (R38). -/
theorem Change.mem_submissions {i : Instr} (hch : Change i s t) {x : Submission} (hx : x ∈ t.submissions) :
    x ∈ s.submissions ∨ ∃ p c, s.case? x.tag = some c ∧ c.isHeldBy p = true ∧ x.grader = p ∧ x.kind = gradeKindOf c.state ∧
      x.observations.length ≤ 16 ∧ t.case? x.tag = some { c with holder := none, state := .grading } := by
  cases hch with
  | quiet h => rw [h.rest] at hx; exact .inl hx
  | force | claimAudit => rw [State.outOfTote_eq] at hx; exact .inl hx
  | submit p u c observed obs hp hm hc hh hn hl =>
    rw [State.enqueue, State.submissions_startComputation] at hx
    have hsub : x ∈ s.submissions ∨ x = ⟨u, p, gradeKindOf c.state, observed, obs⟩ := by
      simpa [State.submissions, or_assoc] using hx
    refine hsub.imp_right fun hx => ⟨p, c, ?_⟩
    subst hx
    refine ⟨hc, hh, rfl, rfl, hl, ?_⟩
    rw [State.enqueue, State.case?_of_cases (State.cases_startComputation _)]
    exact (State.case?_setCase s u u _).trans (if_pos rfl)
  | start => rw [State.submissions_startComputation] at hx; exact .inl hx
  | completeFirst k c he hk hc =>
    rw [State.nextComputation, State.submissions_startComputation] at hx
    rw [State.submissions_of_engine he]
    exact .inl (List.mem_cons_of_mem _ hx)
  | completeAudit k c first he hk hc hf =>
    rw [State.nextComputation, State.submissions_startComputation] at hx
    rw [State.submissions_of_engine he]
    exact .inl (List.mem_cons_of_mem _ hx)
  | reset => cases hx
  | _ => exact .inl hx

/-- A new submission is FIRST from ON_BENCH and AUDIT from ON_AUDIT, where the holder is not the first grader (R31, R44). -/
theorem Submission.fits_new {x : Submission} {p : Port} (hp : c.partsFit) (hf : c.historyFits) (hh : c.isHeldBy p = true)
    (hg : x.grader = p) (hk : x.kind = gradeKindOf c.state) : x.fits { c with holder := none, state := .grading } := by
  obtain ⟨k, hk', hkp⟩ := Case.isHeldBy_iff.mp hh
  obtain hs | hs := hp.held hk'
  · have hu := hf.ungraded (.inr (.inr hs))
    refine ⟨iff_of_true (by simp [hk, hs, gradeKindOf]) hu, fun g ha => ?_⟩
    simp [hk, hs, gradeKindOf] at ha
  · have hgr := (hf.audit (.inr hs)).1
    refine ⟨iff_of_false (by simp [hk, hs, gradeKindOf]) hgr.not_ungraded, fun g _ hfg => ?_⟩
    rw [hg, ← hkp]
    exact hf.other_auditor hs hk' hfg

theorem engineFits_of_laws (hg : GradingLaw s) (hh : HistoryLaw s) (hc : s.case? u = some c) : EngineFits s u c := by
  intro k hk ht
  have hq := ((gradingLaw_iff s).mp hg).1
  subst ht
  exact ⟨hq.computed hk rfl hc, hh.2 k.submission (by simp [State.submissions_of_engine hk]) c hc⟩

theorem Change.keeps_historyLaw {i : Instr} (hch : Change i s t) (hg : GradingLaw s) (hh : HistoryLaw s) : HistoryLaw t := by
  have hq := ((gradingLaw_iff s).mp hg).1
  have hqt := ((gradingLaw_iff t).mp (hch.keeps_gradingLaw hg)).1
  constructor
  · intro u c' hc'
    obtain ⟨c, hc, hcc⟩ := hch.casesFrom u c' hc'
    exact hcc.historyFits (hq.parts u c hc) (hh.1 u c hc) (engineFits_of_laws hg hh hc)
  · intro x hx c' hc'
    obtain hx' | ⟨p, c, hc, hhb, hgr, hk, -, hc''⟩ := hch.mem_submissions hx
    · obtain ⟨c, hc, hcc⟩ := hch.casesFrom x.tag c' hc'
      exact hcc.fits (hq.parts _ c hc) ((hq.grading _ c hc).mpr ⟨x, hx', rfl⟩) ((hqt.grading _ c' hc').mpr ⟨x, hx, rfl⟩)
        (hh.2 x hx' c hc)
    · cases hc'.symm.trans hc''
      exact Submission.fits_new (hq.parts _ c hc) (hh.1 _ c hc) hhb hgr hk

/-- Along a chain the laws hold, and every case has kept what it had of grades and of its audit. -/
theorem Chain.keeps_history {i : Instr} (hch : Chain i s t) (hg : GradingLaw s) (hh : HistoryLaw s) :
    GradingLaw t ∧ HistoryLaw t ∧ ∀ u c', t.case? u = some c' → ∃ c, s.case? u = some c ∧ VerdictKept c c' := by
  refine hch.keeps (P := fun t => GradingLaw t ∧ HistoryLaw t ∧
    ∀ u c', t.case? u = some c' → ∃ c, s.case? u = some c ∧ VerdictKept c c') ?_ ⟨hg, hh, fun u c hc => ⟨c, hc, .of_same rfl rfl⟩⟩
  rintro v w hvw ⟨hgv, hhv, hkept⟩
  refine ⟨hvw.keeps_gradingLaw hgv, hvw.keeps_historyLaw hgv hhv, fun u c' hc' => ?_⟩
  obtain ⟨d, hd, hdc⟩ := hvw.casesFrom u c' hc'
  obtain ⟨c, hc, hcd⟩ := hkept u d hd
  exact ⟨c, hc, hcd.trans (hdc.verdictKept (hhv.1 u d hd) (engineFits_of_laws hgv hhv hd))⟩

theorem Arrival.keeps_historyLaw (ha : Arrival s t) (hg : GradingLaw s) (hh : HistoryLaw s) : HistoryLaw t := by
  have hq := ((gradingLaw_iff s).mp hg).1
  have hqt := ((gradingLaw_iff t).mp (ha.keeps_gradingLaw hg)).1
  cases ha with
  | opens a _ hn _ =>
    constructor
    · intro u c hc
      rw [State.case?_setCase] at hc
      split at hc
      next =>
        cases hc
        rw [Case.historyFits_iff]
        exact ⟨fun ⟨_, ha, _⟩ => (by cases ha), fun _ _ _ hk => (by cases hk), fun _ _ _ ha => (by cases ha),
          (Case.stageFits_ungraded (.inl rfl)).mpr ⟨rfl, rfl, rfl, rfl, rfl, rfl⟩⟩
      next => exact hh.1 u c hc
    · intro x hx c hc
      rw [State.case?_setCase] at hc
      split at hc
      next ht =>
        have hnamed := hq.named x hx
        rw [ht, hn] at hnamed
        cases hnamed
      next => exact hh.2 x hx c hc
  | revives r d hd hs =>
    constructor
    · intro u c hc
      rw [State.case?_setCase] at hc
      split at hc
      next =>
        cases hc
        have hf := hh.1 r d hd
        have hv : SameVerdict d { d with state := .expected, openedDay := s.today } := ⟨rfl, rfl, rfl, rfl⟩
        exact hv.historyFits_off hf ((Case.stageFits_ungraded (.inl rfl)).mpr ((hv.ungraded rfl rfl).mpr (hf.ungraded (.inr (.inl hs))))) (by simp)
      next => exact hh.1 u c hc
    · intro x hx c hc
      rw [State.case?_setCase] at hc
      split at hc
      next ht =>
        have hgr := (hq.grading r d hd).mpr ⟨x, hx, ht⟩
        cases hs.symm.trans hgr
      next => exact hh.2 x hx c hc

/-- An arrival leaves what a case has of grades and of its audit. -/
theorem Arrival.verdictKept (ha : Arrival s t) (hc : s.case? u = some c) (hc' : t.case? u = some c') : VerdictKept c c' := by
  cases ha with
  | opens a _ hn _ =>
    rw [State.case?_setCase] at hc'
    split at hc'
    next ht => subst ht; rw [hn] at hc; cases hc
    next => cases hc.symm.trans hc'; exact .of_same rfl rfl
  | revives r d hd _ =>
    rw [State.case?_setCase] at hc'
    split at hc'
    next ht =>
      subst ht
      cases hd.symm.trans hc
      cases hc'
      exact .of_same rfl rfl
    next => cases hc.symm.trans hc'; exact .of_same rfl rfl

end

/-- Settles O59: each change of a case keeps its history fitting and adds to its verdicts, and an arrival touches none. -/
theorem stepKeepsTheHistoryOfCases : Obligations.StepKeepsTheHistoryOfCases := by
  intro s t hg hh h
  unfold step at h
  split at h
  · cases h
    exact ⟨hh, fun u c c' hc hc' => by cases hc.symm.trans hc'; exact ⟨fun _ => id, fun _ _ h _ => h, fun a h => ⟨a, h, rfl⟩⟩⟩
  next i rest _ =>
    have hgs : GradingLaw (s.withPending rest) := hg
    have hhs : HistoryLaw (s.withPending rest) := hh
    obtain hch | ⟨u, v, hu, ha, hv⟩ := exec_does h
    · obtain ⟨-, hht, hkept⟩ := hch.keeps_history hgs hhs
      refine ⟨hht, fun tag c c' hc hc' => ?_⟩
      obtain ⟨d, hd, hk⟩ := hkept tag c' hc'
      cases hd.symm.trans hc
      exact ⟨hk.firstGrade, hk.resolved, hk.selected⟩
    · have hgu := Change.keeps_gradingLaw (i := i) (.quiet hu) hgs
      have hhu := Change.keeps_historyLaw (i := i) (.quiet hu) hgs hhs
      refine ⟨Change.keeps_historyLaw (i := i) (.quiet hv) (ha.keeps_gradingLaw hgu) (ha.keeps_historyLaw hgu hhu), fun tag c c' hc hc' => ?_⟩
      rw [hv.case?] at hc'
      have hk := ha.verdictKept ((hu.case? tag).trans hc) hc'
      exact ⟨hk.firstGrade, hk.resolved, hk.selected⟩

end Sys2Proof.Machine
end

section
/-! SUPPORT. The laws of totes: how many values of a table meet a predicate, one tote's own law, and that every step keeps the whole. -/

namespace Sys2Proof.Machine

/-! Counting in a store -/

section
variable {ν : Type} {p : ν → Bool}

/-- How many values of a store meet a predicate. -/
def Store.countOf (p : ν → Bool) (m : Store ν) : Nat := m.entries.countP fun e => p e.2

/-- One for a value that meets the predicate, and zero for another one or none. -/
def weightOf (p : ν → Bool) (o : Option ν) : Nat := if o.any p then 1 else 0

theorem findIn_eq_none_of_lt {k lo : Nat} (hk : k < lo) {l : List (Nat × ν)} (h : risingFrom lo l = true) : findIn k l = none := by
  cases hf : findIn k l with
  | none => rfl
  | some v =>
    obtain ⟨hlo, -⟩ := findIn_of_mem h (mem_of_findIn_eq hf)
    exact absurd hlo (by simpa using hk)

theorem countP_insertIn (k : Nat) (v : ν) : ∀ {l : List (Nat × ν)} {lo : Nat}, risingFrom lo l = true →
    (insertIn k v l).countP (fun e => p e.2) + weightOf p (findIn k l) = l.countP (fun e => p e.2) + weightOf p (some v)
  | [], _, _ => by simp [insertIn, findIn, weightOf, List.countP_cons]
  | e :: r, lo, h => by
    simp only [risingFrom, Bool.and_eq_true, decide_eq_true_eq] at h
    unfold insertIn
    by_cases hlt : k < e.1
    · have hn : findIn k r = none := findIn_eq_none_of_lt (Nat.lt_succ_of_lt hlt) h.2
      rw [if_pos hlt, findIn, if_neg (by omega), hn, List.countP_cons]
      simp [weightOf]
    · rw [if_neg hlt]
      by_cases hk : e.1 = k
      · rw [if_pos hk, findIn, if_pos hk, List.countP_cons, List.countP_cons]
        simp only [weightOf, Option.any_some]
        omega
      · have ih := countP_insertIn k v h.2
        rw [if_neg hk, findIn, if_neg hk, List.countP_cons, List.countP_cons]
        omega

theorem countP_eraseIn (k : Nat) : ∀ {l : List (Nat × ν)} {lo : Nat}, risingFrom lo l = true →
    (eraseIn k l).countP (fun e => p e.2) + weightOf p (findIn k l) = l.countP (fun e => p e.2)
  | [], _, _ => by simp [eraseIn, findIn, weightOf]
  | e :: r, lo, h => by
    simp only [risingFrom, Bool.and_eq_true, decide_eq_true_eq] at h
    have ih := countP_eraseIn k h.2
    unfold eraseIn
    by_cases hk : e.1 = k
    · rw [findIn_eq_none_of_lt (by omega) h.2] at ih
      rw [if_pos hk, findIn, if_pos hk, List.countP_cons]
      simp only [weightOf, Option.any_some, Option.any_none] at ih ⊢
      simpa using ih
    · rw [if_neg hk, findIn, if_neg hk, List.countP_cons, List.countP_cons]
      omega

variable {m : Store ν}

theorem Store.countOf_insert (h : m.sorted = true) (k : Nat) (v : ν) :
    (m.insert k v).countOf p + weightOf p (m.find? k) = m.countOf p + weightOf p (some v) := countP_insertIn k v h

theorem Store.countOf_erase (h : m.sorted = true) (k : Nat) : (m.erase k).countOf p + weightOf p (m.find? k) = m.countOf p :=
  countP_eraseIn k h

theorem Store.countOf_insert_same (h : m.sorted = true) {k : Nat} {v w : ν} (hf : m.find? k = some v) (hp : p w = p v) :
    (m.insert k w).countOf p = m.countOf p := by
  have := Store.countOf_insert (p := p) h k w
  rw [hf] at this
  simp only [weightOf, Option.any_some, hp] at this
  omega

theorem Store.countOf_mapValues (f : ν → ν) (hp : ∀ v, p (f v) = p v) : (m.mapValues f).countOf p = m.countOf p := by
  simp only [Store.countOf, Store.mapValues, List.countP_map]
  exact List.countP_congr fun e _ => by simp [hp]

/-- A value that is counted makes the count positive. -/
theorem Store.countOf_pos {k : Nat} {v : ν} (hf : m.find? k = some v) (hp : p v = true) : 0 < m.countOf p :=
  List.countP_pos_iff.mpr ⟨_, Store.mem_of_find? hf, hp⟩

end

/-- A ROUTED case whose reservation names the tote, as `State.routedInto` counts them. -/
def Case.routedTo (u : ToteNo) (c : Case) : Bool := decide (c.state = .routed) && decide (c.reservation.map (·.tote) = some u)

theorem State.routedInto_eq (s : State) (u : ToteNo) : s.routedInto u = s.cases.countOf (Case.routedTo u) := rfl

theorem Case.routedTo_of_not_routed {c : Case} (h : c.state ≠ .routed) (u : ToteNo) : c.routedTo u = false := by
  simp [Case.routedTo, h]

theorem Store.countOf_markDeparted (tags : List Tag) {m : Store Case} (h : m.sorted = true) (u : ToteNo) :
    (markDeparted tags m).countOf (Case.routedTo u) = m.countOf (Case.routedTo u) := by
  induction tags generalizing m with
  | nil => rfl
  | cons t rest ih =>
    rw [markDeparted, List.foldl_cons]
    split
    next c hc => exact (ih (Store.sorted_insert h _ _)).trans (Store.countOf_insert_same h hc rfl)
    next => exact ih h

/-! One tote -/

/-- What the two laws say of a tote alone (R122, R123, R124, R126). -/
structure ToteOwn (u : ToteNo) (k : Tote) : Prop where
  nodup : k.manifest.Nodup
  filled : k.filled = k.manifest.length
  room : k.filled + k.reserved ≤ k.capacity
  cap_pos : 1 ≤ k.capacity
  cap_le : k.capacity ≤ 32
  link : k.link ≠ some u
  full : k.state = .full → k.filled = k.capacity ∧ k.reserved = 0
  unused : k.state = .unused → k.filled = 0 ∧ k.reserved = 0 ∧ k.link = none

section
variable {u : ToteNo} {k : Tote} {tag : Tag}

theorem ToteOwn.of_unused (u : ToteNo) : ToteOwn u .unused :=
  ⟨List.nodup_nil, rfl, by decide, by decide, by decide, nofun, nofun, fun _ => ⟨rfl, rfl, rfl⟩⟩

/-- A tag leaves the manifest (R125). -/
theorem ToteOwn.without (h : ToteOwn u k) (ht : tag ∈ k.manifest) : ToteOwn u (k.without tag) := by
  obtain ⟨hn, hf, hr, h1, h2, hl, hfull, hun⟩ := h
  have hpos := List.length_pos_of_mem ht
  have hlen := List.length_erase_of_mem ht
  have hn' := hn.erase tag
  unfold Tote.without
  cases hs : k.state
  case unused => have := hun hs; omega
  case opened => exact ⟨hn', by simp only; omega, by simp only; omega, h1, h2, hl, by simp, by simp⟩
  case full => exact ⟨hn', by simp only; omega, by simp only; omega, h1, h2, hl, by simp, by simp⟩
  case draining =>
    simp only
    split
    · exact ⟨hn', by simp only; omega, by simp only; omega, h1, h2, hl, by simp, by simp⟩
    · exact ⟨hn', by simp only; omega, by simp only; omega, h1, h2, hl, by simp, by simp⟩

theorem Tote.manifest_without (k : Tote) (tag : Tag) : (k.without tag).manifest = k.manifest.erase tag := by
  unfold Tote.without
  split
  · rfl
  · simp only; split <;> rfl
  · rfl

theorem Tote.reserved_without (k : Tote) (tag : Tag) : (k.without tag).reserved = k.reserved := by
  unfold Tote.without
  split
  · rfl
  · simp only; split <;> rfl
  · rfl

/-- A reservation is handed back (R113, R116). -/
theorem ToteOwn.placeBack (h : ToteOwn u k) : ToteOwn u k.placeBack :=
  ⟨h.nodup, h.filled, by have := h.room; simp only [Tote.placeBack]; omega, h.cap_pos, h.cap_le, h.link,
    fun hs => by obtain ⟨h1, h2⟩ := h.full hs; exact ⟨h1, by simp only [Tote.placeBack]; omega⟩,
    fun hs => by obtain ⟨h1, h2, h3⟩ := h.unused hs; exact ⟨h1, by simp only [Tote.placeBack]; omega, h3⟩⟩

/-- An available tote takes a reservation (R106). -/
theorem ToteOwn.reserve (h : ToteOwn u k) (ha : k.available = true) : ToteOwn u { k with reserved := k.reserved + 1 } := by
  simp only [Tote.available, Bool.and_eq_true, decide_eq_true_eq] at ha
  obtain ⟨hs, hr⟩ := ha
  exact ⟨h.nodup, h.filled, by simp only; omega, h.cap_pos, h.cap_le, h.link, by simp [hs], by simp [hs]⟩

/-- A placement into the reserved place (R110). -/
theorem ToteOwn.placed (h : ToteOwn u k) (hr : 0 < k.reserved) (ht : tag ∉ k.manifest) : ToteOwn u (k.placed tag) := by
  obtain ⟨hn, hf, hroom, h1, h2, hl, hfull, hun⟩ := h
  refine ⟨?_, by simp [Tote.placed, hf], by simp only [Tote.placed]; omega, h1, h2, hl, ?_, ?_⟩
  · exact List.nodup_append.mpr ⟨hn, List.nodup_singleton _, fun a ha b hb hab => ht (by rwa [← List.mem_singleton.mp hb, ← hab])⟩
  · intro hs
    simp only [Tote.placed] at hs ⊢
    split at hs
    next ho => omega
    next => have := hfull hs; omega
  · intro hs
    simp only [Tote.placed] at hs ⊢
    split at hs
    · cases hs
    · have := hun hs; omega

/-- A taken Write Tote (R126, R127). -/
theorem ToteOwn.written {w : ToteWrite} (h : ToteOwn w.tote k) (hw : writeToteCheck w k = none) : ToteOwn w.tote (k.written w) := by
  obtain ⟨hn, hf, hroom, h1, h2, hl, hfull, hun⟩ := h
  unfold writeToteCheck at hw
  unfold Tote.written
  split at hw
  · cases hw
  next st hst =>
    split at hw
    · cases hw
    next hcap =>
      split at hw
      · cases hw
      next huse =>
        split at hw
        · cases hw
        next hfit =>
          have hcases : st = .unused ∨ st = .opened := by
            unfold readWriteState at hst
            split at hst <;> cases hst
            · exact .inl rfl
            · exact .inr rfl
          rw [hst]
          obtain rfl | rfl := hcases
          · simp only [true_and, not_or, Nat.not_lt] at huse
            exact ⟨hn, hf, by simp only; omega, by simp only; omega, by simp only; omega, nofun, nofun,
              fun _ => ⟨by simp only; omega, by simp only; omega, rfl⟩⟩
          · simp only [true_and, Nat.not_lt] at hfit
            refine ⟨hn, hf, by simp only; omega, by simp only; omega, by simp only; omega, fun hlk => hcap (.inr (.inr hlk)), ?_, ?_⟩
            · intro hs
              cases hk : k.state <;> simp only [hk] at hs <;> try cases hs
              all_goals
                split at hs
                · simp only; omega
                · cases hs
            · intro hs
              cases hk : k.state <;> simp only [hk] at hs <;> try cases hs
              all_goals split at hs <;> cases hs

theorem Tote.manifest_written (k : Tote) (w : ToteWrite) : (k.written w).manifest = k.manifest := by
  unfold Tote.written; split <;> rfl

theorem Tote.reserved_written (k : Tote) (w : ToteWrite) : (k.written w).reserved = k.reserved := by
  unfold Tote.written; split <;> rfl

/-- A tote's state changes to one that asks nothing of the counts. -/
theorem ToteOwn.withState (h : ToteOwn u k) {st : ToteState} (h1 : st ≠ .full) (h2 : st ≠ .unused) : ToteOwn u { k with state := st } :=
  ⟨h.nodup, h.filled, h.room, h.cap_pos, h.cap_le, h.link, fun hs => (h1 hs).elim, fun hs => (h2 hs).elim⟩

theorem ToteOwn.emptied (h : ToteOwn u k) : ToteOwn u k.emptied :=
  ⟨List.nodup_nil, rfl, by have := h.room; simp only [Tote.emptied]; omega, h.cap_pos, h.cap_le, h.link, nofun, nofun⟩

theorem ToteOwn.floorCleared (h : ToteOwn u k) : ToteOwn u k.floorCleared := by
  unfold Tote.floorCleared
  split
  · exact h
  · exact ⟨List.nodup_nil, rfl, Nat.zero_le _, h.cap_pos, h.cap_le, h.link, nofun, nofun⟩

theorem ToteOwn.floorCleared_empty (h : ToteOwn u k) : k.floorCleared.manifest = [] ∧ k.floorCleared.reserved = 0 := by
  unfold Tote.floorCleared
  split
  next hs =>
    obtain ⟨hf, hr, -⟩ := h.unused hs
    exact ⟨List.eq_nil_of_length_eq_zero (h.filled.symm.trans hf), hr⟩
  · exact ⟨rfl, rfl⟩

end

/-! The laws together -/

/-- The two laws of totes, by what they speak of: a case alone, a tote alone, and the two in agreement. -/
structure ToteLaws (s : State) : Prop where
  locations : ∀ t c, s.case? t = some c → c.locationFits
  listed : ∀ u t, t ∈ (s.tote u).manifest ↔ ∃ c, s.case? t = some c ∧ c.location = .inTote u
  own : ∀ u, ToteOwn u (s.tote u)
  counted : ∀ u, (s.tote u).reserved = s.cases.countOf (Case.routedTo u)

theorem toteLaws_iff (s : State) : ToteLaws s ↔ ManifestLaw s ∧ CountLaw s := by
  constructor
  · rintro ⟨h1, h2, h3, h4⟩
    exact ⟨⟨h1, h2, fun u => ⟨(h3 u).nodup, (h3 u).filled⟩, fun u hs => ((h3 u).unused hs).1⟩,
      fun u => ⟨(h3 u).room, (h3 u).cap_pos, (h3 u).cap_le, h4 u, (h3 u).link, (h3 u).full, (h3 u).unused⟩⟩
  · rintro ⟨⟨h1, h2, h3, -⟩, h4⟩
    refine ⟨h1, h2, fun u => ?_, fun u => (h4 u).2.2.2.1⟩
    obtain ⟨hroom, hc1, hc2, -, hlink, hfull, hun⟩ := h4 u
    exact ⟨(h3 u).1, (h3 u).2, hroom, hc1, hc2, hlink, hfull, hun⟩

section
variable {s t : State} {u : Tag} {c c' : Case} {v : ToteNo}

theorem Case.locationFits.none (h : c.locationFits) (h1 : c.state ≠ .placed) (h2 : c.state ≠ .auditWait) : c.location = .none := by
  unfold Case.locationFits at h
  split at h
  · contradiction
  · contradiction
  · exact h

theorem Case.locationFits_of_none (h : c.location = .none) (h1 : c.state ≠ .placed) : c.locationFits := by
  unfold Case.locationFits
  split
  · contradiction
  · trivial
  · exact h

theorem Case.locationFits_of_auditWait (h : c.state = .auditWait) : c.locationFits := by
  unfold Case.locationFits; rw [h]; trivial

theorem ToteLaws.congr (h : ToteLaws s) (hc : t.cases = s.cases) (ht : t.totes = s.totes) : ToteLaws t := by
  obtain ⟨h1, h2, h3, h4⟩ := h
  simp only [← State.case?_of_cases hc, ← State.tote_of_totes ht, ← hc] at h1 h2 h3 h4
  exact ⟨h1, h2, h3, h4⟩

/-- One case and one tote change together. -/
theorem ToteLaws.exchange (h : ToteLaws s) (hs : s.cases.sorted = true) (hc : s.case? u = some c) {k : Tote}
    (ht : ∀ w, t.tote w = if w = v then k else s.tote w) (hcs : t.cases = s.cases.insert u.toNat c')
    (hfit : c'.locationFits) (hown : ToteOwn v k)
    (hloc : ∀ w, w ≠ v → (c'.location = .inTote w ↔ c.location = .inTote w))
    (hlist : ∀ x, x ∈ k.manifest ↔ if x = u then c'.location = .inTote v else x ∈ (s.tote v).manifest)
    (hroute : ∀ w, w ≠ v → c'.routedTo w = c.routedTo w)
    (hres : k.reserved + weightOf (Case.routedTo v) (some c) = (s.tote v).reserved + weightOf (Case.routedTo v) (some c')) :
    ToteLaws t := by
  have hcase (x : Tag) : t.case? x = if x = u then some c' else s.case? x :=
    (State.case?_of_cases (s := s.setCase u c') hcs x).trans (State.case?_setCase ..)
  have hothers (w : ToteNo) (x : Tag) (hx : x ≠ u) :
      (∃ d, t.case? x = some d ∧ d.location = .inTote w) ↔ x ∈ (s.tote w).manifest := by
    rw [hcase, if_neg hx]; exact (h.listed w x).symm
  have hthis (w : ToteNo) : (∃ d, t.case? u = some d ∧ d.location = .inTote w) ↔ c'.location = .inTote w := by
    rw [hcase, if_pos rfl]
    exact ⟨fun ⟨d, hd, hl⟩ => by cases hd; exact hl, fun hl => ⟨c', rfl, hl⟩⟩
  refine ⟨fun x d hd => ?_, fun w x => ?_, fun w => ?_, fun w => ?_⟩
  · rw [hcase] at hd
    split at hd
    · cases hd; exact hfit
    · exact h.locations x d hd
  · rw [ht]
    split
    next hw =>
      subst hw
      rw [hlist]
      split
      next hx => subst hx; exact (hthis w).symm
      next hx => exact (hothers w x hx).symm
    next hw =>
      by_cases hx : x = u
      · subst hx
        rw [hthis, hloc w hw, h.listed]
        exact ⟨fun ⟨d, hd, hl⟩ => by cases hc.symm.trans hd; exact hl, fun hl => ⟨c, hc, hl⟩⟩
      · exact (hothers w x hx).symm
  · rw [ht]
    split
    next hw => exact hw ▸ hown
    next => exact h.own w
  · rw [ht, hcs]
    split
    next hw =>
      subst hw
      have hcount := Store.countOf_insert (p := Case.routedTo w) hs u.toNat c'
      rw [show s.cases.find? u.toNat = some c from hc, ← h.counted] at hcount
      omega
    next hw => rw [h.counted, Store.countOf_insert_same hs hc (hroute w hw)]

/-- A case is rewritten, and stays where it is and with the reservation that it has. -/
theorem ToteLaws.rewrite (h : ToteLaws s) (hs : s.cases.sorted = true) (hc : s.case? u = some c) (hfit : c'.locationFits)
    (hl : c'.location = c.location) (hr : ∀ w, c'.routedTo w = c.routedTo w) : ToteLaws (s.setCase u c') := by
  refine h.exchange (v := 0) (k := s.tote 0) hs hc (fun w => ?_) rfl hfit (h.own 0) (fun w _ => by rw [hl]) (fun x => ?_)
    (fun w _ => hr w) (by simp only [weightOf, Option.any_some, hr])
  · split
    next hw => rw [hw]; rfl
    next => rfl
  · split
    next hx =>
      subst hx
      rw [hl, h.listed]
      exact ⟨fun ⟨d, hd, hl'⟩ => by cases hc.symm.trans hd; exact hl', fun hl' => ⟨c, hc, hl'⟩⟩
    next => rfl

/-- A case that is not ROUTED is rewritten as one that is not, in its place. -/
theorem ToteLaws.rewriteFree (h : ToteLaws s) (hs : s.cases.sorted = true) (hc : s.case? u = some c) (hfit : c'.locationFits)
    (hl : c'.location = c.location) (h1 : c.state ≠ .routed) (h2 : c'.state ≠ .routed) : ToteLaws (s.setCase u c') :=
  h.rewrite hs hc hfit hl fun w => by rw [Case.routedTo_of_not_routed h1, Case.routedTo_of_not_routed h2]

theorem ToteLaws.mem_of_location (h : ToteLaws s) (hc : s.case? u = some c) (hl : c.location = .inTote v) :
    u ∈ (s.tote v).manifest := (h.listed v u).mpr ⟨c, hc, hl⟩

/-- A case that is not ROUTED leaves the tote that it is in, if it is in one (R22, R32, R125). -/
theorem ToteLaws.leave (h : ToteLaws s) (hs : s.cases.sorted = true) (hc : s.case? u = some c) (hfit : c'.locationFits)
    (hl : c'.location = .none) (h1 : c.state ≠ .routed) (h2 : c'.state ≠ .routed) :
    ToteLaws ((s.setCase u c').outOfTote c.location u) := by
  have hr (w : ToteNo) : c'.routedTo w = c.routedTo w := by rw [Case.routedTo_of_not_routed h1, Case.routedTo_of_not_routed h2]
  have hstay (hloc : ∀ v, c.location ≠ .inTote v) : ToteLaws (s.setCase u c') := by
    refine h.exchange (v := 0) (k := s.tote 0) hs hc (fun w => ?_) rfl hfit (h.own 0) (fun w _ => by simp [hl, hloc w])
      (fun x => ?_) (fun w _ => hr w) (by simp only [weightOf, Option.any_some, hr])
    · split
      next hw => rw [hw]; rfl
      next => rfl
    · split
      next hx =>
        subst hx
        rw [hl, h.listed]
        exact iff_of_false (fun ⟨d, hd, hl'⟩ => by cases hc.symm.trans hd; exact hloc _ hl') nofun
      next => rfl
  cases hloc : c.location with
  | none => exact hstay (by simp [hloc])
  | departed => exact hstay (by simp [hloc])
  | inTote v =>
    have hmem := h.mem_of_location hc hloc
    refine h.exchange (v := v) (k := (s.tote v).without u) hs hc (fun w => State.tote_setTote ..) rfl hfit ((h.own v).without hmem)
      (fun w hw => ?_) (fun x => ?_) (fun w _ => hr w) ?_
    · rw [hl, hloc]
      exact iff_of_false nofun fun he => hw (by cases he; rfl)
    · rw [Tote.manifest_without, (h.own v).nodup.mem_erase_iff, hl]
      split
      next hx => simp [hx]
      next hx => simp [hx]
    · rw [Tote.reserved_without]
      simp only [weightOf, Option.any_some, hr]

/-- A tote is rewritten with the manifest and the reserved count that it has. -/
theorem ToteLaws.setTote (h : ToteLaws s) {k : Tote} (hown : ToteOwn v k) (hm : k.manifest = (s.tote v).manifest)
    (hr : k.reserved = (s.tote v).reserved) : ToteLaws (s.setTote v k) := by
  have hman (w : ToteNo) : ((s.setTote v k).tote w).manifest = (s.tote w).manifest := by
    rw [State.tote_setTote]; split
    next hw => rw [hm, hw]
    next => rfl
  have hres (w : ToteNo) : ((s.setTote v k).tote w).reserved = (s.tote w).reserved := by
    rw [State.tote_setTote]; split
    next hw => rw [hr, hw]
    next => rfl
  refine ⟨h.locations, fun w x => by rw [hman]; exact h.listed w x, fun w => ?_, fun w => by rw [hres]; exact h.counted w⟩
  rw [State.tote_setTote]
  split
  next hw => exact hw ▸ hown
  next => exact h.own w

/-- A case that is in no tote and not ROUTED leaves the table. -/
theorem ToteLaws.erase (h : ToteLaws s) (hs : s.cases.sorted = true) (hc : s.case? u = some c) (hl : ∀ w, c.location ≠ .inTote w)
    (h1 : c.state ≠ .routed) : ToteLaws (s.withCases (s.cases.erase u.toNat)) := by
  refine ⟨fun x d hd => ?_, fun w x => ?_, h.own, fun w => ?_⟩
  · rw [State.case?_erase] at hd
    split at hd
    · cases hd
    · exact h.locations x d hd
  · rw [State.case?_erase]
    refine (h.listed w x).trans ?_
    split
    next hx =>
      subst hx
      exact iff_of_false (fun ⟨d, hd, hl'⟩ => by cases hc.symm.trans hd; exact hl _ hl') (by simp)
    next => rfl
  · have hcount := Store.countOf_erase (p := Case.routedTo w) hs u.toNat
    rw [show s.cases.find? u.toNat = some c from hc] at hcount
    simp only [weightOf, Option.any_some, Case.routedTo_of_not_routed h1] at hcount
    exact (h.counted w).trans (by simpa using hcount.symm)

/-- A new case that is in no tote and not ROUTED joins the table. -/
theorem ToteLaws.newCase (h : ToteLaws s) (hs : s.cases.sorted = true) (hc : s.case? u = none) (hfit : c.locationFits)
    (hl : c.location = .none) (h1 : c.state ≠ .routed) : ToteLaws (s.setCase u c) := by
  refine ⟨fun x d hd => ?_, fun w x => ?_, h.own, fun w => ?_⟩
  · rw [State.case?_setCase] at hd
    split at hd
    · cases hd; exact hfit
    · exact h.locations x d hd
  · rw [State.case?_setCase]
    refine (h.listed w x).trans ?_
    split
    next hx =>
      subst hx
      refine iff_of_false (fun ⟨d, hd, _⟩ => by cases hc.symm.trans hd) fun ⟨d, hd, hl'⟩ => ?_
      cases hd; rw [hl] at hl'; cases hl'
    next => rfl
  · have hcount := Store.countOf_insert (p := Case.routedTo w) hs u.toNat c
    rw [show s.cases.find? u.toNat = none from hc] at hcount
    simp only [weightOf, Option.any_some, Option.any_none, Case.routedTo_of_not_routed h1, Bool.false_eq_true, if_false, Nat.add_zero] at hcount
    exact (h.counted w).trans hcount.symm

/-- Every case is rewritten in its place, in its state and with the reservation that it has. -/
theorem ToteLaws.mapValues (h : ToteLaws s) {f : Case → Case} (hs : ∀ c, (f c).state = c.state) (hl : ∀ c, (f c).location = c.location)
    (hr : ∀ c w, (f c).routedTo w = c.routedTo w) : ToteLaws (s.withCases (s.cases.mapValues f)) := by
  refine ⟨fun x d hd => ?_, fun w x => ?_, h.own, fun w => (h.counted w).trans (Store.countOf_mapValues f (hr · w)).symm⟩
  · rw [State.case?_withCases, Store.find?_mapValues, Option.map_eq_some_iff] at hd
    obtain ⟨c, hc, rfl⟩ := hd
    have := h.locations x c hc
    unfold Case.locationFits at this ⊢
    rw [hs, hl]
    exact this
  · rw [State.case?_withCases, Store.find?_mapValues]
    refine (h.listed w x).trans ⟨fun ⟨c, hc, hl'⟩ => ⟨f c, by rw [show s.cases.find? x.toNat = some c from hc]; rfl, (hl c).trans hl'⟩, ?_⟩
    rintro ⟨d, hd, hl'⟩
    obtain ⟨c, hc, rfl⟩ := Option.map_eq_some_iff.mp hd
    exact ⟨c, hc, (hl c).symm.trans hl'⟩

theorem ToteLaws.departed (h : ToteLaws s) (hs : s.cases.sorted = true) (v : ToteNo) : ToteLaws (s.departed v) := by
  have htote (w : ToteNo) : (s.departed v).tote w = if w = v then (s.tote v).emptied else s.tote w := State.tote_setTote ..
  refine ⟨fun x d hd => ?_, fun w x => ?_, fun w => ?_, fun w => ?_⟩
  · rw [State.case?_departed] at hd
    split at hd
    next hm =>
      obtain ⟨c, hc, rfl⟩ := Option.map_eq_some_iff.mp hd
      obtain ⟨c', hc', hl⟩ := (h.listed v x).mp hm
      cases hc.symm.trans hc'
      have := h.locations x c hc
      unfold Case.locationFits at this ⊢
      split
      · nofun
      · trivial
      next h1 h2 =>
        rw [Case.locationFits.none (h.locations x c hc) h1 h2] at hl
        cases hl
    · exact h.locations x d hd
  · rw [htote, State.case?_departed]
    by_cases hm : x ∈ (s.tote v).manifest
    · rw [if_pos hm]
      refine iff_of_false (fun hx => ?_) fun ⟨d, hd, hl⟩ => ?_
      · split at hx
        · cases hx
        next hw =>
          obtain ⟨c, hc, hl⟩ := (h.listed w x).mp hx
          obtain ⟨c', hc', hl'⟩ := (h.listed v x).mp hm
          cases hc.symm.trans hc'
          exact hw (by cases hl.symm.trans hl'; rfl)
      · obtain ⟨c, -, rfl⟩ := Option.map_eq_some_iff.mp hd
        cases hl
    · rw [if_neg hm, ← h.listed]
      split
      next hw => subst hw; exact iff_of_false nofun hm
      next => rfl
  · rw [htote]
    split
    next hw => exact hw ▸ (h.own v).emptied
    next => exact h.own w
  · have hcount : (s.departed v).cases.countOf (Case.routedTo w) = s.cases.countOf (Case.routedTo w) :=
      Store.countOf_markDeparted _ hs w
    rw [htote, hcount, ← h.counted]
    split
    next hw => subst hw; rfl
    next => rfl

/-! Every change -/

theorem Case.routedTo_self {r : Reservation} (hs : c.state = .routed) (hr : c.reservation = some r) : c.routedTo r.tote = true := by
  simp [Case.routedTo, hs, hr]

theorem Case.routedTo_other {r : Reservation} (hr : c.reservation = some r) (hw : v ≠ r.tote) : c.routedTo v = false := by
  simp [Case.routedTo, hr, Ne.symm hw]

/-- A reservation counts in its tote (R122). -/
theorem ToteLaws.reserved_pos (h : ToteLaws s) (hc : s.case? u = some c) {r : Reservation} (hs : c.state = .routed)
    (hr : c.reservation = some r) : 0 < (s.tote r.tote).reserved := by
  rw [h.counted]; exact Store.countOf_pos hc (Case.routedTo_self hs hr)

theorem ToteLaws.startComputation (h : ToteLaws s) : ToteLaws s.startComputation := by
  rw [State.startComputation_eq]; exact h.congr rfl rfl

/-- A case whose hold ends stays where it is. -/
theorem ToteLaws.returned (h : ToteLaws s) (hs : s.cases.sorted = true) (hc : s.case? u = some c) (o : Option Port) :
    ToteLaws (s.setCase u { c.returned with lastLapsedHolder := o }) := by
  have hfit := h.locations u c hc
  obtain ⟨hst, heq⟩ | ⟨hst, heq⟩ | ⟨-, -, heq⟩ := c.returned_cases <;> rw [heq]
  · have hn := hfit.none (by simp [hst]) (by simp [hst])
    exact h.rewriteFree hs hc (Case.locationFits_of_none hn (by simp)) rfl (by simp [hst]) (by simp)
  · have hn := hfit.none (by simp [hst]) (by simp [hst])
    exact h.rewriteFree hs hc (Case.locationFits_of_auditWait rfl) hn.symm (by simp [hst]) (by simp)
  · exact h.rewrite hs hc hfit rfl fun _ => rfl

theorem ToteLaws.handBack (h : ToteLaws s) (hs : s.cases.sorted = true) (hc : s.case? u = some c) {r : Reservation}
    (hr : c.reservation = some r) (hst : c.state = .routed) (o : Option ToteNo) :
    ToteLaws ((s.setTote r.tote (s.tote r.tote).placeBack).setCase u { c.unreserved with lastLapsedTote := o }) := by
  have hloc : c.location = .none := (h.locations u c hc).none (by simp [hst]) (by simp [hst])
  have hnew (w : ToteNo) : ({ c.unreserved with lastLapsedTote := o } : Case).routedTo w = false :=
    Case.routedTo_of_not_routed (by simp [Case.unreserved]) w
  have hpos := h.reserved_pos hc hst hr
  refine h.exchange (v := r.tote) (k := (s.tote r.tote).placeBack) hs hc (fun w => State.tote_setTote ..) rfl
    (Case.locationFits_of_none rfl (by simp [Case.unreserved])) (h.own r.tote).placeBack (fun w _ => by rw [hloc]; rfl) (fun x => ?_)
    (fun w hw => by rw [hnew, Case.routedTo_other hr hw]) ?_
  · split
    next hx =>
      subst hx
      refine iff_of_false (fun hm => ?_) nofun
      obtain ⟨d, hd, hl⟩ := (h.listed _ _).mp hm
      cases hc.symm.trans hd
      rw [hloc] at hl
      cases hl
    next => rfl
  · simp only [weightOf, Option.any_some, hnew, Case.routedTo_self hst hr, Tote.placeBack]
    simp only [if_true, Bool.false_eq_true, if_false]
    omega

theorem ToteLaws.reserve (h : ToteLaws s) (hs : s.cases.sorted = true) (hc : s.case? u = some c) (hst : c.state = .graded)
    (ha : (s.tote v).available = true) (cls : RouteClass) (n : Nat) : ToteLaws (s.reserve u c cls v n) := by
  have hloc : c.location = .none := (h.locations u c hc).none (by simp [hst]) (by simp [hst])
  have hold (w : ToteNo) : c.routedTo w = false := Case.routedTo_of_not_routed (by simp [hst]) w
  refine h.exchange (v := v) (k := { s.tote v with reserved := (s.tote v).reserved + 1 }) hs hc (fun w => State.tote_setTote ..) rfl
    (Case.locationFits_of_none hloc (by simp)) ((h.own v).reserve ha) (fun w _ => Iff.rfl) (fun x => ?_)
    (fun w hw => ?_) ?_
  · split
    next hx =>
      subst hx
      refine (h.listed v x).trans ⟨fun ⟨d, hd, hl⟩ => ?_, fun hl => ⟨c, hc, hl⟩⟩
      cases hc.symm.trans hd
      exact hl
    next => rfl
  · rw [hold]
    exact Case.routedTo_other rfl hw
  · have hnew : Case.routedTo v { c with state := .routed, reservation := some ⟨v, n, false⟩, routeClass := some cls, lastLapsedTote := none } = true :=
      Case.routedTo_self (r := ⟨v, n, false⟩) rfl rfl
    simp only [weightOf, Option.any_some, hold, hnew]
    simp

theorem ToteLaws.place (h : ToteLaws s) (hs : s.cases.sorted = true) (hc : s.case? u = some c) {r : Reservation}
    (hr : c.reservation = some r) (hst : c.state = .routed) :
    ToteLaws ((s.setTote r.tote ((s.tote r.tote).placed u)).setCase u
      { c with reservation := none, location := .inTote r.tote, state := c.placedState }) := by
  have hloc : c.location = .none := (h.locations u c hc).none (by simp [hst]) (by simp [hst])
  have hout : u ∉ (s.tote r.tote).manifest := fun hm => by
    obtain ⟨d, hd, hl⟩ := (h.listed _ _).mp hm
    cases hc.symm.trans hd
    rw [hloc] at hl
    cases hl
  have hnew (w : ToteNo) : Case.routedTo w { c with reservation := none, location := .inTote r.tote, state := c.placedState } = false := by
    simp [Case.routedTo]
  have hpos := h.reserved_pos hc hst hr
  refine h.exchange (v := r.tote) (k := (s.tote r.tote).placed u) hs hc (fun w => State.tote_setTote ..) rfl ?_
    ((h.own r.tote).placed hpos hout) (fun w hw => ?_) (fun x => ?_) (fun w hw => by rw [hnew, Case.routedTo_other hr hw]) ?_
  · unfold Case.locationFits
    obtain hp | hp := c.placedState_cases <;> simp [hp]
  · rw [hloc]
    exact iff_of_false (fun he => hw (by cases he; rfl)) nofun
  · simp only [Tote.placed, List.mem_append, List.mem_singleton]
    split
    next hx => simp [hx]
    next hx => simp [hx]
  · simp only [weightOf, Option.any_some, hnew, Case.routedTo_self hst hr, Tote.placed]
    simp only [if_true, Bool.false_eq_true, if_false]
    omega

theorem Case.routedTo_congr (hs : c'.state = c.state) (hr : c'.reservation.map (·.tote) = c.reservation.map (·.tote)) (w : ToteNo) :
    c'.routedTo w = c.routedTo w := by
  rw [Case.routedTo, Case.routedTo, hs, hr]

theorem Case.rearmed_rest (c : Case) (n : Nat) :
    (c.rearmed n).location = c.location ∧ (c.rearmed n).reservation.map (·.tote) = c.reservation.map (·.tote) := by
  unfold Case.rearmed
  split
  · exact ⟨rfl, by rw [Option.map_map]; rfl⟩
  · exact ⟨rfl, rfl⟩

theorem ToteLaws.cleared (h : ToteLaws s) :
    ToteLaws (((s.withCases .empty).withTotes (s.totes.mapValues Tote.floorCleared)).withOutbound []) := by
  have htote (w : ToteNo) :
      (((s.withCases .empty).withTotes (s.totes.mapValues Tote.floorCleared)).withOutbound []).tote w = (s.tote w).floorCleared := by
    simp only [State.tote, State.withOutbound_totes, State.withTotes_totes, Store.get, Store.find?_mapValues]
    cases s.totes.find? w.toNat <;> rfl
  refine ⟨(fun _ _ hc => nomatch hc), fun w x => ?_, fun w => by rw [htote]; exact (h.own w).floorCleared, fun w => ?_⟩
  · rw [htote, (h.own w).floorCleared_empty.1]
    exact iff_of_false List.not_mem_nil fun ⟨_, hd, _⟩ => (by cases hd)
  · rw [htote, (h.own w).floorCleared_empty.2]
    rfl

theorem ToteLaws.of_empty (hc : t.cases = .empty) (ht : t.totes = .empty) : ToteLaws t := by
  have hcase (x : Tag) : t.case? x = none := by rw [State.case?, hc]; rfl
  have htote (w : ToteNo) : t.tote w = .unused := by rw [State.tote, ht]; rfl
  refine ⟨fun x d hd => ?_, fun w x => ?_, fun w => by rw [htote]; exact .of_unused w, fun w => by rw [htote, hc]; rfl⟩
  · rw [hcase] at hd; cases hd
  · rw [htote, hcase]; exact iff_of_false List.not_mem_nil fun ⟨_, hd, _⟩ => (by cases hd)

theorem Change.keeps_toteLaws {i : Instr} (hch : Change i s t) (hcan : Canonical s) (hg : GradingLaw s) (h : ToteLaws s) :
    ToteLaws t := by
  have hs : s.cases.sorted = true := ((canonical_iff s).mp hcan).cases.sorted
  have hq := ((gradingLaw_iff s).mp hg).1
  have hnone {u : Tag} {c : Case} (hc : s.case? u = some c) (h1 : c.state ≠ .placed) (h2 : c.state ≠ .auditWait) :
      c.location = .none := (h.locations u c hc).none h1 h2
  cases hch with
  | quiet hqt => rw [hqt.rest]; exact h.congr rfl rfl
  | drop u c hc hst =>
    refine h.erase hs hc (fun w => ?_) (by rcases hst with hst | hst | ⟨hst, -⟩ <;> simp [hst])
    obtain hst | hst | ⟨-, hl⟩ := hst
    · rw [hnone hc (by simp [hst]) (by simp [hst])]; nofun
    · rw [hnone hc (by simp [hst]) (by simp [hst])]; nofun
    · rw [hl]; nofun
  | lapse u c hc hst =>
    have hl := hnone hc (by simp [hst]) (by simp [hst])
    exact h.rewriteFree hs hc (Case.locationFits_of_none hl (by simp)) rfl (by simp [hst]) (by simp)
  | force u c bd g hc hst hb =>
    exact h.leave hs hc (Case.locationFits_of_none rfl (by simp [Case.forced])) rfl (by rcases hst with hst | hst <;> simp [hst])
      (by simp [Case.forced])
  | writeTote w hw => exact h.setTote ((h.own _).written hw) (Tote.manifest_written ..) (Tote.reserved_written ..)
  | depart v hd hl => exact h.departed hs v
  | endDrain v hd hr hf => exact h.setTote ((h.own v).withState (by simp) (by simp)) rfl rfl
  | clear hm => exact h.cleared
  | claim p u c hp hc hst =>
    have hl := hnone hc (by simp [hst]) (by simp [hst])
    exact h.rewriteFree hs hc (Case.locationFits_of_none hl (by simp [Case.heldBy])) rfl (by simp [hst]) (by simp [Case.heldBy])
  | renew p u c k hp hc hst hh hk => exact h.rewrite hs hc (h.locations u c hc) rfl fun _ => rfl
  | claimAudit p u c hp hc hst hgr =>
    exact h.leave hs hc (Case.locationFits_of_none rfl (by simp [Case.heldBy])) rfl (by simp [hst]) (by simp [Case.heldBy])
  | submit p u c observed obs hp hm hc hh hn hl =>
    obtain ⟨k, hk, -⟩ := Case.isHeldBy_iff.mp hh
    have hst := (hq.parts u c hc).held hk
    have hloc := hnone hc (by rcases hst with hst | hst <;> simp [hst]) (by rcases hst with hst | hst <;> simp [hst])
    have hset : ToteLaws (s.setCase u { c with holder := none, state := .grading }) :=
      h.rewriteFree hs hc (Case.locationFits_of_none hloc (by simp)) rfl (by rcases hst with hst | hst <;> simp [hst]) (by simp)
    exact ToteLaws.startComputation (hset.congr rfl rfl)
  | giveBack u c hc => exact h.returned hs hc c.returned.lastLapsedHolder
  | holdLapse u c k hc hh => exact h.returned hs hc (some k.port)
  | handBack u c r o hc hr => exact h.handBack hs hc hr ((hq.parts u c hc).routed hr) o
  | reserve u c cls v hc hst hcls ha => exact h.reserve hs hc hst ha cls _
  | place u c r hc hst hr => exact h.place hs hc hr hst
  | swap v hv => exact h.setTote ((h.own v).withState (by simp) (by simp)) rfl rfl
  | stopRise =>
    exact (h.mapValues Case.dwellNotDue_state (fun _ => rfl)
      fun c => Case.routedTo_congr rfl (by rw [Case.dwellNotDue, Option.map_map]; rfl)).congr rfl rfl
  | stopFall =>
    exact (h.mapValues (fun c => c.rearmed_state _) (fun c => (c.rearmed_rest _).1)
      fun c => Case.routedTo_congr (c.rearmed_state _) (c.rearmed_rest _).2).congr rfl rfl
  | mark n b =>
    exact h.mapValues (fun _ => rfl) (fun _ => rfl) fun c => Case.routedTo_congr rfl (by rw [Case.markDue, Option.map_map]; rfl)
  | start => exact h.startComputation
  | completeFirst k c he hk hc =>
    have hst := hq.computed he rfl hc
    have hl := hnone hc (by simp [hst]) (by simp [hst])
    have hset (g : GradeRecord) (b : Bool) : ToteLaws (s.setCase k.submission.tag (c.firstGraded g b)) :=
      h.rewriteFree hs hc (Case.locationFits_of_none hl (by simp [Case.firstGraded])) rfl (by simp [hst]) (by simp [Case.firstGraded])
    exact ToteLaws.startComputation ((hset _ _).congr rfl rfl)
  | completeAudit k c first he hk hc hf =>
    have hst := hq.computed he rfl hc
    have hl := hnone hc (by simp [hst]) (by simp [hst])
    have hset (g : GradeRecord) (o : AuditOutcome) : ToteLaws (s.setCase k.submission.tag (c.auditGraded first g o)) :=
      h.rewriteFree hs hc (Case.locationFits_of_none hl (by simp [Case.auditGraded])) rfl (by simp [hst]) (by simp [Case.auditGraded])
    exact ToteLaws.startComputation ((hset _ _).congr rfl rfl)
  | reset roles rate stop hi => exact .of_empty rfl rfl
  | _ => exact h.congr rfl rfl

theorem Arrival.keeps_toteLaws (ha : Arrival s t) (hcan : Canonical s) (h : ToteLaws s) : ToteLaws t := by
  have hs : s.cases.sorted = true := ((canonical_iff s).mp hcan).cases.sorted
  cases ha with
  | opens a _ hc _ => exact h.newCase hs hc (Case.locationFits_of_none rfl nofun) rfl nofun
  | revives u c hc hst =>
    have hl := (h.locations u c hc).none (by simp [hst]) (by simp [hst])
    exact h.rewriteFree hs hc (Case.locationFits_of_none hl (by simp)) rfl (by simp [hst]) (by simp)

end

/-- The tables' canonical form, the law of the grading engine and the laws of totes, which steps keep together. -/
def FloorLaws (s : State) : Prop := Canonical s ∧ GradingLaw s ∧ ToteLaws s

theorem step_keeps_floorLaws {s t : State} (hs : FloorLaws s) (h : step s = .next t) : FloorLaws t := by
  refine step_keeps (P := FloorLaws) (fun s q => ?_) (fun i u v hch => ?_) (fun u v ha => ?_) hs h
  · rintro ⟨hc, hg, ht⟩
    exact ⟨hc, hg, ht.congr rfl rfl⟩
  · rintro ⟨hc, hg, ht⟩
    exact ⟨(canonical_iff v).mpr (hch.keeps_canonical ((canonical_iff u).mp hc)), hch.keeps_gradingLaw hg, hch.keeps_toteLaws hc hg ht⟩
  · rintro ⟨hc, hg, ht⟩
    exact ⟨(canonical_iff v).mpr (ha.keeps_canonical ((canonical_iff u).mp hc)), ha.keeps_gradingLaw hg, ha.keeps_toteLaws hc ht⟩

/-- Settles O60: each change moves one case and one tote together, or neither's part in the laws. -/
theorem stepKeepsTheToteLaws : Obligations.StepKeepsTheToteLaws := fun _ t hc hg hm hn h =>
  (toteLaws_iff t).mp (step_keeps_floorLaws ⟨hc, hg, (toteLaws_iff _).mpr ⟨hm, hn⟩⟩ h).2.2

end Sys2Proof.Machine
end

section
/-! SUPPORT. The ranges of values, group by group, and that every step keeps them. -/

namespace Sys2Proof.Machine

section
variable {s t : State} {u : Tag} {c c' : Case}

/-! Tables and settings -/

/-- The ranges of the tables that requests write, and of what the engine has taken from them (R73, R74, R86, R170). -/
structure TableRanges (s : State) : Prop where
  categories : ∀ c, (s.category c).inRange
  weights : ∀ c k, (weightIn (s.weightRow c) k).weight ≤ 4095
  settings : s.settings.inRange
  sampler : s.sampler ≠ 0
  engine : ∀ k, s.engine = some k → k.record.inRange ∧ ∀ n, (weightIn k.weights n).weight ≤ 4095

theorem storedRecord_inRange {w : CategoryWrite} (h : thresholdsBad w = false) (k : ScaleStep) : (storedRecord k w).inRange := by
  simp only [thresholdsBad, Bool.or_eq_false_iff, decide_eq_false_iff_not, Nat.not_lt] at h
  have h1 := w.window.isLt
  have h2 := w.wearLimit.isLt
  unfold CategoryRecord.inRange storedRecord
  dsimp only
  omega

theorem weightIn_writeRun_le (es : List WeightWrite) (hes : ∀ e ∈ es, e.weight.toNat ≤ 4095) (k n : Nat) {row : Store WeightEntry}
    (h : ∀ n, (weightIn row n).weight ≤ 4095) : (weightIn (writeRun k es row) n).weight ≤ 4095 := by
  induction es generalizing k row with
  | nil => exact h n
  | cons e rest ih =>
    refine ih (fun e he => hes e (List.mem_cons_of_mem _ he)) _ fun m => ?_
    unfold weightIn
    rw [Store.get_put]
    split
    · exact hes e List.mem_cons_self
    · exact h m

theorem weights_le_of_not_bad {category first : Byte} {es : List WeightWrite} (h : weightsBad category first es = false) :
    ∀ e ∈ es, e.weight.toNat ≤ 4095 := by
  simp only [weightsBad, Bool.or_eq_false_iff, List.any_eq_false, decide_eq_true_eq, Nat.not_lt] at h
  exact h.2

theorem storedSettings_inRange (s : State) (w : SettingsWrite) : (s.storedSettings w).inRange := by
  unfold Settings.inRange State.storedSettings intoRange
  dsimp only
  omega

theorem TableRanges.withEngine_none (h : TableRanges s) : TableRanges (s.withEngine none) :=
  ⟨h.categories, h.weights, h.settings, h.sampler, nofun⟩

theorem TableRanges.startComputation (h : TableRanges s) : TableRanges s.startComputation := by
  obtain he | ⟨x, rest, c, -, -, -, he⟩ := s.startComputation_cases <;> rw [he]
  · exact h
  · exact ⟨h.categories, h.weights, h.settings, h.sampler, fun k hk => by cases hk; exact ⟨h.categories _, h.weights _⟩⟩

theorem TableRanges.afterReset (roles : BitVec 16) (rate : BitVec 2) (stop : Bool) : TableRanges (.afterReset roles rate stop) where
  categories c := by
    show CategoryRecord.neutral.inRange
    unfold CategoryRecord.inRange; decide
  weights c k := Nat.zero_le 4095
  settings := by
    show Settings.reset.inRange
    unfold Settings.inRange; decide
  sampler := by
    show Config.samplerReset ≠ 0
    decide
  engine := nofun

theorem Change.keeps_tableRanges {i : Instr} (hch : Change i s t) (h : TableRanges s) : TableRanges t := by
  obtain ⟨hc, hw, hs, hsm, he⟩ := h
  cases hch with
  | quiet hq => rw [hq.rest]; exact ⟨hc, hw, hs, hsm, he⟩
  | force | claimAudit => rw [State.outOfTote_eq]; exact ⟨hc, hw, hs, hsm, he⟩
  | weights category first es hb =>
    refine ⟨hc, fun c k => ?_, hs, hsm, he⟩
    rw [State.weightRow, State.withWeights_weights, Store.get_put]
    split
    · exact weightIn_writeRun_le es (weights_le_of_not_bad hb) _ _ (hw (toCategory category))
    · exact hw c k
  | category category w k hcat ht =>
    refine ⟨fun c => ?_, hw, hs, hsm, he⟩
    rw [State.category, State.withCategories_categories, Store.get_put]
    split
    · exact storedRecord_inRange ht k
    · exact hc c
  | sampler x hx => exact ⟨hc, hw, hs, hx, he⟩
  | settings w => exact ⟨hc, hw, storedSettings_inRange s w, hsm, he⟩
  | submit | start => exact TableRanges.startComputation ⟨hc, hw, hs, hsm, he⟩
  | completeFirst k c hk hkind hcase =>
    refine TableRanges.startComputation (TableRanges.withEngine_none (s := s.recordFirst k c) ⟨hc, hw, hs, ?_, he⟩)
    show (if _ then samplerStep s.sampler else s.sampler) ≠ 0
    split
    · exact samplerStep_ne_zero hsm
    · exact hsm
  | completeAudit k c first hk hkind hcase hf =>
    exact TableRanges.startComputation (TableRanges.withEngine_none (s := s.recordAudit k c first) ⟨hc, hw, hs, hsm, he⟩)
  | reset roles rate stop hi =>
    have hr := TableRanges.afterReset roles rate stop
    exact ⟨hr.categories, hr.weights, hr.settings, hr.sampler, hr.engine⟩
  | _ => exact ⟨hc, hw, hs, hsm, he⟩

/-! Time -/

/-- The ranges of the calendar and of the seconds written down (R139, R135, R153). -/
structure TimeRanges (s : State) : Prop where
  calendar : s.calendar.inRange
  record : ∀ e, s.errors.record = some e → e.second ≤ 4294967295
  outbound : ∀ r ∈ s.outbound, r.second ≤ 4294967295

theorem Calendar.inRange.advance {x : Calendar} (h : x.inRange) : x.advance.inRange := by
  obtain ⟨h1, h2, h3, h4, h5, h6⟩ := h
  unfold Calendar.inRange Calendar.advance
  dsimp only
  refine ⟨?_, ?_, ?_, ?_, ?_, Nat.min_le_left ..⟩
  · split <;> omega
  · split
    · split <;> omega
    · exact h2
  · split
    · split <;> omega
    · exact h3
  · split
    · split <;> omega
    · exact h4
  · split
    · exact Nat.min_le_left ..
    · exact h5

theorem TimeRanges.startComputation (h : TimeRanges s) : TimeRanges s.startComputation := by
  rw [State.startComputation_eq]; exact ⟨h.calendar, h.record, h.outbound⟩

theorem Change.keeps_timeRanges {i : Instr} (hch : Change i s t) (h : TimeRanges s) : TimeRanges t := by
  obtain ⟨hc, hr, ho⟩ := h
  have hsecond : s.secondCount ≤ 4294967295 := hc.2.2.2.2.2
  cases hch with
  | quiet hq =>
    have hrec (e) (he : t.errors.record = some e) : e.second ≤ 4294967295 :=
      (hq.record e he).elim (hr e) fun hs => hs.le.trans hsecond
    rw [hq.rest] at hrec ⊢
    exact ⟨hc, hrec, ho⟩
  | force | claimAudit => rw [State.outOfTote_eq]; exact ⟨hc, hr, ho⟩
  | takeRecord r rest heq => exact ⟨hc, hr, fun x hx => ho x (by rw [heq]; exact List.mem_cons_of_mem _ hx)⟩
  | depart v hd hl =>
    refine ⟨hc, hr, fun x hx => ?_⟩
    obtain hx | hx := List.mem_append.mp hx
    · exact ho x hx
    · rw [List.mem_singleton.mp hx]; exact hsecond
  | clock w hb =>
    simp only [clockBad, Bool.or_eq_false_iff, decide_eq_false_iff_not, Nat.not_lt] at hb
    have hday := w.day.isLt
    exact ⟨⟨hb.1.1.1, hb.1.1.2, hb.1.2, hb.2, Nat.le_of_lt_succ hday, hsecond⟩, hr, ho⟩
  | advance hi => exact ⟨hc.advance, hr, ho⟩
  | clear hm => exact ⟨hc, hr, nofun⟩
  | submit | start | completeFirst | completeAudit => exact TimeRanges.startComputation ⟨hc, hr, ho⟩
  | reset roles rate stop hi =>
    refine ⟨?_, nofun, nofun⟩
    show Calendar.reset.inRange
    unfold Calendar.inRange; decide
  | _ => exact ⟨hc, hr, ho⟩

/-! Totes -/

/-- The range of every capacity (R122). -/
def CapacityRanges (s : State) : Prop := ∀ u, 1 ≤ (s.tote u).capacity ∧ (s.tote u).capacity ≤ 32

theorem CapacityRanges.setTote (h : CapacityRanges s) {v : ToteNo} {k : Tote} (hk : 1 ≤ k.capacity ∧ k.capacity ≤ 32) :
    CapacityRanges (s.setTote v k) := by
  intro w
  rw [State.tote_setTote]
  split
  · exact hk
  · exact h w

theorem Tote.capacity_without (k : Tote) (tag : Tag) : (k.without tag).capacity = k.capacity := by
  unfold Tote.without
  split
  · rfl
  · simp only; split <;> rfl
  · rfl

theorem Tote.capacity_written {k : Tote} {w : ToteWrite} (h : writeToteCheck w k = none) :
    1 ≤ (k.written w).capacity ∧ (k.written w).capacity ≤ 32 := by
  have hcap : (k.written w).capacity = w.capacity.toNat := by unfold Tote.written; split <;> rfl
  unfold writeToteCheck at h
  split at h
  · cases h
  · split at h
    · cases h
    next hc => omega

theorem Tote.capacity_floorCleared (k : Tote) : k.floorCleared.capacity = k.capacity := by
  unfold Tote.floorCleared; split <;> rfl

theorem CapacityRanges.outOfTote (h : CapacityRanges s) (loc : Location) (tag : Tag) : CapacityRanges (s.outOfTote loc tag) := by
  cases loc with
  | inTote v => exact h.setTote (by rw [Tote.capacity_without]; exact h v)
  | _ => exact h

theorem State.totes_startComputation (s : State) : s.startComputation.totes = s.totes := by
  rw [State.startComputation_eq]; rfl

theorem State.settings_startComputation (s : State) : s.startComputation.settings = s.settings := by
  rw [State.startComputation_eq]; rfl

theorem CapacityRanges.congr (h : CapacityRanges s) (ht : t.totes = s.totes) : CapacityRanges t := fun w => by
  rw [State.tote_of_totes ht]; exact h w

theorem Change.keeps_capacityRanges {i : Instr} (hch : Change i s t) (h : CapacityRanges s) : CapacityRanges t := by
  cases hch with
  | quiet hq => rw [hq.rest]; exact h
  | force u c => exact CapacityRanges.outOfTote (s := s.setCase u _) h c.location u
  | claimAudit p u c => exact CapacityRanges.outOfTote (s := s.setCase u _) h c.location u
  | writeTote w hw => exact h.setTote (Tote.capacity_written hw)
  | depart v hd hl =>
    intro w
    rw [show (s.departed v).tote w = if w = v then (s.tote v).emptied else s.tote w from State.tote_setTote ..]
    split
    · exact h v
    · exact h w
  | endDrain v => exact h.setTote (h v)
  | swap v => exact h.setTote (h v)
  | clear hm =>
    intro w
    simp only [State.tote, State.withOutbound_totes, State.withTotes_totes, Store.get, Store.find?_mapValues]
    have hw := h w
    simp only [State.tote, Store.get] at hw
    cases hf : s.totes.find? w.toNat with
    | none => exact ⟨by decide, by decide⟩
    | some k =>
      rw [hf] at hw
      simpa [Tote.capacity_floorCleared] using hw
  | handBack u c r => exact CapacityRanges.setTote (k := (s.tote r.tote).placeBack) h (h r.tote)
  | reserve u c cls v => exact CapacityRanges.setTote (k := { s.tote v with reserved := (s.tote v).reserved + 1 }) h (h v)
  | place u c r => exact CapacityRanges.setTote (k := (s.tote r.tote).placed u) h (h r.tote)
  | start => exact h.congr (State.totes_startComputation s)
  | submit => exact h.congr (State.totes_startComputation _)
  | completeFirst => exact h.congr (State.totes_startComputation _)
  | completeAudit => exact h.congr (State.totes_startComputation _)
  | reset roles rate stop hi => exact fun _ => (show 1 ≤ Tote.unused.capacity ∧ Tote.unused.capacity ≤ 32 by decide)
  | _ => exact h

/-! Cases and submissions -/

/-- The ranges of one case's values, and that its holder, grader and auditor are BENCH ports (R2, R4, R5, R26). -/
structure CaseInRange (s : State) (c : Case) : Prop where
  values : c.inRange
  holder : ∀ h, c.holder = some h → (s.port h.port).role = .bench
  grader : ∀ g, c.firstGrade = some g → (s.port g.grader).role = .bench
  auditor : ∀ a x, c.audit = some a → a.resolution = some x → (s.port x.auditor).role = .bench

theorem Computation.grade_inRange (k : Computation) (late : Bool) : (k.grade late).inRange := by
  refine ⟨tallyOf_deduction_le .., ?_, scoreOf_le _⟩
  show (tallyOf ..).wear ≤ 65535
  rw [tallyOf_eq]
  exact Nat.min_le_left ..

theorem satAdd_le (a b : Nat) : satAdd a b ≤ 4294967295 := Nat.min_le_left ..

/-- A case whose verdicts stay is in range when its days, hold and reservation are. -/
theorem CaseInRange.same (h : CaseInRange s c) (h1 : c'.deliveryDay = c.deliveryDay) (h2 : c'.openedDay ≤ 65535)
    (h3 : c'.firstGrade = c.firstGrade) (h4 : c'.audit = c.audit)
    (hh : ∀ k, c'.holder = some k → k.deadline ≤ 4294967295 ∧ (s.port k.port).role = .bench)
    (hr : ∀ r, c'.reservation = some r → r.deadline ≤ 4294967295) : CaseInRange s c' := by
  obtain ⟨⟨hd, -, -, -, hg, ha⟩, -, hgr, hau⟩ := h
  refine ⟨⟨h1 ▸ hd, h2, fun k hk => (hh k hk).1, hr, ?_, ?_⟩, fun k hk => (hh k hk).2, ?_, ?_⟩
  · rw [h3]; exact hg
  · rw [h4]; exact ha
  · rw [h3]; exact hgr
  · rw [h4]; exact hau

theorem CaseInRange.returned (h : CaseInRange s c) (o : Option Port) : CaseInRange s { c.returned with lastLapsedHolder := o } := by
  obtain ⟨-, hop, -, hr, -, -⟩ := h.values
  obtain ⟨-, heq⟩ | ⟨-, heq⟩ | ⟨-, -, heq⟩ := c.returned_cases <;> rw [heq] <;> exact h.same rfl hop rfl rfl nofun hr

/-- A BENCH port's new hold is in range (R26). -/
theorem CaseInRange.held (h : CaseInRange s c) {p : Port} (hp : (s.port p).role = .bench) (h1 : c'.deliveryDay = c.deliveryDay)
    (h2 : c'.openedDay = c.openedDay) (h3 : c'.firstGrade = c.firstGrade) (h4 : c'.audit = c.audit)
    (hh : c'.holder = some (s.newHold p)) (hr : c'.reservation = c.reservation) : CaseInRange s c' := by
  obtain ⟨-, hop, -, hrs, -, -⟩ := h.values
  refine h.same h1 (h2 ▸ hop) h3 h4 (fun k hk => ?_) (by rwa [hr])
  cases hh.symm.trans hk
  exact ⟨satAdd_le .., hp⟩

/-- R2, R4, R5, R26, R115 through every change of a case; the submission in the engine is from a BENCH port. -/
theorem CaseChange.inRange (h : CaseChange s u c c') (hc : CaseInRange s c)
    (he : ∀ k, s.engine = some k → (s.port k.submission.grader).role = .bench) : CaseInRange s c' := by
  obtain ⟨hdd, hop, hh, hr, hg, ha⟩ := hc.values
  have hhold (k : Hold) (hk : c.holder = some k) : k.deadline ≤ 4294967295 ∧ (s.port k.port).role = .bench :=
    ⟨hh k hk, hc.holder k hk⟩
  cases h with
  | same => exact hc
  | lapse | force | depart => exact hc.same rfl hop rfl rfl hhold hr
  | claim p hp => exact hc.held hp rfl rfl rfl rfl rfl rfl
  | renew p k hp => exact hc.held hp rfl rfl rfl rfl rfl rfl
  | claimAudit p hp => exact hc.held hp rfl rfl rfl rfl rfl rfl
  | submit => exact hc.same rfl hop rfl rfl nofun hr
  | giveBack => exact hc.returned c.returned.lastLapsedHolder
  | holdLapse k => exact hc.returned (some k.port)
  | handBack => exact hc.same rfl hop rfl rfl hhold nofun
  | reserve => exact hc.same rfl hop rfl rfl hhold fun r hr => by cases hr; exact satAdd_le ..
  | place => exact hc.same rfl hop rfl rfl hhold nofun
  | dwellNotDue =>
    refine hc.same rfl hop rfl rfl hhold fun r hres => ?_
    obtain ⟨r', hr', rfl⟩ := Option.map_eq_some_iff.mp hres
    exact hr r' hr'
  | rearm =>
    unfold Case.rearmed
    split
    · refine hc.same rfl hop rfl rfl hhold fun r hres => ?_
      obtain ⟨r', hr', rfl⟩ := Option.map_eq_some_iff.mp hres
      exact satAdd_le ..
    · exact hc
  | mark =>
    refine hc.same rfl hop rfl rfl (fun k hk => ?_) fun r hres => ?_
    · obtain ⟨k', hk', rfl⟩ := Option.map_eq_some_iff.mp hk
      exact hhold k' hk'
    · obtain ⟨r', hr', rfl⟩ := Option.map_eq_some_iff.mp hres
      exact hr r' hr'
  | first k hk =>
    refine ⟨⟨hdd, hop, hh, hr, fun g hg => ?_, fun a x ha hx => ?_⟩, hc.holder, fun g hg => ?_, fun a x ha hx => ?_⟩
    · cases hg; exact k.grade_inRange _
    · cases ha; cases hx
    · cases hg; exact he k hk
    · cases ha; cases hx
  | audit k first hk =>
    refine ⟨⟨hdd, hop, hh, hr, hg, fun a x ha hx => ?_⟩, hc.holder, hc.grader, fun a x ha hx => ?_⟩
    · cases ha; cases hx; exact ⟨k.grade_inRange _, rfl⟩
    · cases ha; cases hx; exact he k hk

/-- The ranges of cases and submissions, and the BENCH ports (R2, R4, R5, R26, R44, R170). -/
structure FloorRanges (s : State) : Prop where
  capable : ∀ p, s.auditCapable p = true → (s.port p).role = .bench
  submitted : ∀ x ∈ s.submissions, (s.port x.grader).role = .bench ∧ x.observations.length ≤ 16
  cases : ∀ t c, s.case? t = some c → CaseInRange s c

theorem State.getLsbD_benchPorts (s : State) (p : Port) : s.benchPorts.getLsbD p.val = s.isBench p := by
  fin_cases p <;> simp [State.benchPorts, BitVec.ofBoolListLE]

theorem CaseInRange.congr (h : CaseInRange s c) (hrole : ∀ p, (t.port p).role = (s.port p).role) : CaseInRange t c := by
  obtain ⟨h1, h2, h3, h4⟩ := h
  simp only [← hrole] at h2 h3 h4
  exact ⟨h1, h2, h3, h4⟩

theorem Change.role_eq {i : Instr} (hch : Change i s t) :
    (∀ p, (t.port p).role = (s.port p).role) ∨
      ∃ roles rate stop, t = ((State.afterReset roles rate stop).withFreeCount s.freeCount).withPending s.pending := by
  obtain hq | hp | ⟨-, hp, -⟩ | ⟨-, hp⟩ | ⟨roles, rate, stop, -, hp⟩ := hch.pins
  · exact .inl fun p => (hq.ports p).role
  · exact .inl fun p => by rw [State.port, hp.ports]; rfl
  · exact .inl fun p => by rw [State.port, hp]; rfl
  · exact .inl fun p => by rw [hp]; rfl
  · exact .inr ⟨roles, rate, stop, hp⟩

/-- The audit-capable set is written with the settings alone (R170). -/
theorem Change.settings_eq {i : Instr} (hch : Change i s t) :
    t.settings = s.settings ∨ (∃ w, t = s.withSettings (s.storedSettings w)) ∨
      ∃ roles rate stop, t = ((State.afterReset roles rate stop).withFreeCount s.freeCount).withPending s.pending := by
  cases hch with
  | quiet hq => rw [hq.rest]; exact .inl rfl
  | force | claimAudit => rw [State.outOfTote_eq]; exact .inl rfl
  | settings w => exact .inr (.inl ⟨w, rfl⟩)
  | start => exact .inl (State.settings_startComputation s)
  | submit => exact .inl (State.settings_startComputation _)
  | completeFirst => exact .inl (State.settings_startComputation _)
  | completeAudit => exact .inl (State.settings_startComputation _)
  | reset roles rate stop hi => exact .inr (.inr ⟨roles, rate, stop, rfl⟩)
  | _ => exact .inl rfl

theorem FloorRanges.of_reset (roles : BitVec 16) (rate : BitVec 2) (stop : Bool) (n : Nat) (q : List Instr) :
    FloorRanges (((State.afterReset roles rate stop).withFreeCount n).withPending q) :=
  ⟨fun p hp => by simp [State.auditCapable, State.afterReset, Settings.reset] at hp, fun _ hx => (by cases hx), fun _ _ hc => (by cases hc)⟩

theorem Change.keeps_floorRanges {i : Instr} (hch : Change i s t) (h : FloorRanges s) : FloorRanges t := by
  obtain hrole | ⟨roles, rate, stop, rfl⟩ := hch.role_eq
  · refine ⟨fun p hp => ?_, fun x hx => ?_, fun v c' hc' => ?_⟩
    · obtain hs | ⟨w, rfl⟩ | ⟨roles, rate, stop, rfl⟩ := hch.settings_eq
      · rw [hrole]
        exact h.capable p (by rwa [State.auditCapable, ← hs])
      · have hp : (w.auditCapable &&& s.benchPorts).getLsbD p.val = true := hp
        rw [BitVec.getLsbD_and, Bool.and_eq_true, State.getLsbD_benchPorts] at hp
        exact of_decide_eq_true hp.2
      · exact (FloorRanges.of_reset roles rate stop _ _).capable p hp
    · rw [hrole]
      obtain hx | ⟨p, c, hc, hh, hg, -, hl, -⟩ := hch.mem_submissions hx
      · exact h.submitted x hx
      · obtain ⟨k, hk, hkp⟩ := Case.isHeldBy_iff.mp hh
        exact ⟨by rw [hg, ← hkp]; exact (h.cases _ c hc).holder k hk, hl⟩
    · obtain ⟨c, hc, hcc⟩ := hch.casesFrom v c' hc'
      refine (hcc.inRange (h.cases v c hc) fun k hk => ?_).congr hrole
      exact (h.submitted k.submission (by simp [State.submissions_of_engine hk])).1
  · exact .of_reset ..

end

/-! The whole -/

/-- `InRange`, group by group. -/
structure AllRanges (s : State) : Prop where
  tables : TableRanges s
  time : TimeRanges s
  capacities : CapacityRanges s
  floor : FloorRanges s

theorem inRange_iff (s : State) : InRange s ↔ AllRanges s := by
  constructor
  · rintro ⟨hc, hw, hcal, hset, hsm, ⟨hcap, hsub, hben⟩, hcs, hobs, heng, hrec, hout, htot⟩
    exact ⟨⟨hc, hw, hset, hsm, heng⟩, ⟨hcal, hrec, hout⟩, htot, hcap, fun x hx => ⟨hsub x hx, hobs x hx⟩,
      fun t c h => ⟨hcs t c h, (hben t c h).1, (hben t c h).2.1, (hben t c h).2.2⟩⟩
  · rintro ⟨⟨hc, hw, hset, hsm, heng⟩, ⟨hcal, hrec, hout⟩, htot, hcap, hsub, hcs⟩
    exact ⟨hc, hw, hcal, hset, hsm, ⟨hcap, fun x hx => (hsub x hx).1,
        fun t c h => ⟨(hcs t c h).holder, (hcs t c h).grader, (hcs t c h).auditor⟩⟩,
      fun t c h => (hcs t c h).values, fun x hx => (hsub x hx).2, heng, hrec, hout, htot⟩

theorem Change.keeps_ranges {i : Instr} {s t : State} (hch : Change i s t) (h : AllRanges s) : AllRanges t :=
  ⟨hch.keeps_tableRanges h.tables, hch.keeps_timeRanges h.time, hch.keeps_capacityRanges h.capacities, hch.keeps_floorRanges h.floor⟩

/-- A new case, or one EXPECTED again, has its days in range. -/
theorem Arrival.keeps_ranges {s t : State} (ha : Arrival s t) (h : AllRanges s) : AllRanges t := by
  have htoday : s.today ≤ 65535 := by
    obtain ⟨-, -, -, -, hday, -⟩ := h.time.calendar
    exact hday
  have hset (u : Tag) (c : Case) (hc : CaseInRange s c) : AllRanges (s.setCase u c) := by
    refine ⟨⟨h.tables.categories, h.tables.weights, h.tables.settings, h.tables.sampler, h.tables.engine⟩,
      ⟨h.time.calendar, h.time.record, h.time.outbound⟩, h.capacities, h.floor.capable, h.floor.submitted, fun v d hd => ?_⟩
    rw [State.case?_setCase] at hd
    split at hd
    · cases hd; exact hc.congr fun _ => rfl
    · exact (h.floor.cases v d hd).congr fun _ => rfl
  cases ha with
  | opens a _ _ _ =>
    have hday := a.delivery.isLt
    exact hset _ _ ⟨⟨by simp only [Case.opened]; omega, htoday, fun _ h => (by cases h), fun _ h => (by cases h),
      fun _ h => (by cases h), fun _ _ h => (by cases h)⟩, fun _ h => (by cases h), fun _ h => (by cases h), fun _ _ h => (by cases h)⟩
  | revives u c hc _ =>
    have hcr := h.floor.cases u c hc
    obtain ⟨-, -, hh, hr, -, -⟩ := hcr.values
    exact hset _ _ (hcr.same rfl htoday rfl rfl (fun k hk => ⟨hh k hk, hcr.holder k hk⟩) hr)

/-- Settles O56: each group of values keeps its ranges through each change; the counts of totes follow from the tote laws. -/
theorem stepKeepsValuesInRange : Obligations.StepKeepsValuesInRange := by
  constructor
  · intro s t hs h
    rw [inRange_iff] at hs ⊢
    refine step_keeps (P := AllRanges) (fun s q hs => ?_) (fun _ _ _ hch => hch.keeps_ranges) (fun _ _ ha => ha.keeps_ranges) hs h
    obtain ⟨⟨h1, h2, h3, h4, h5⟩, ⟨h6, h7, h8⟩, h9, h10, h11, h12⟩ := hs
    exact ⟨⟨h1, h2, h3, h4, h5⟩, ⟨h6, h7, h8⟩, h9, h10, h11, fun v c hc => (h12 v c hc).congr fun _ => rfl⟩
  · intro s t hc hg hm hn h u
    have hown := (step_keeps_floorLaws ⟨hc, hg, (toteLaws_iff s).mpr ⟨hm, hn⟩⟩ h).2.2.own u
    have hroom := hown.room
    have hcap := hown.cap_le
    have hlen := hown.filled
    omega

end Sys2Proof.Machine
end

section
/-! SUPPORT. What a reader of the ports sees of an operation: lines, slots and notices. Then a request from its arrival to its answer,
whatever its block does. -/

namespace Sys2Proof.Machine

section
variable {s t u : State} {p : Port} {num : Byte} {r : Request}

/-! Lines and slots that stay -/

/-- Every port's role, slots, line status, enable set, break state and assembler are as before: at most its notices have changed. -/
structure LinesKept (s t : State) : Prop where
  lines : ∀ q, ((t.port q).role = (s.port q).role ∧ (t.port q).waiting = (s.port q).waiting ∧ (t.port q).line = (s.port q).line ∧
    (t.port q).enabled = (s.port q).enabled ∧ (t.port q).inBreak = (s.port q).inBreak) ∧
    (t.port q).service = (s.port q).service ∧ (t.port q).assembler = (s.port q).assembler

theorem LinesKept.of_port (h : ∀ q, t.port q = s.port q) : LinesKept s t := ⟨fun q => by simp [h q]⟩

theorem LinesKept.of_ports (h : t.ports = s.ports) : LinesKept s t := .of_port fun q => State.port_of_ports h q

theorem LinesKept.refl (s : State) : LinesKept s s := .of_ports rfl

theorem LinesKept.trans (h : LinesKept s t) (h' : LinesKept t u) : LinesKept s u where
  lines q := by
    obtain ⟨⟨h1, h2, h3, h4, h5⟩, h6, h7⟩ := h.lines q
    obtain ⟨⟨g1, g2, g3, g4, g5⟩, g6, g7⟩ := h'.lines q
    exact ⟨⟨g1.trans h1, g2.trans h2, g3.trans h3, g4.trans h4, g5.trans h5⟩, g6.trans h6, g7.trans h7⟩

theorem LinesKept.raise (s : State) (who : Port → PortState → Bool) (c : Cause) (d : Detail) : LinesKept s (s.raise who c d) where
  lines q := by
    rw [State.port_raise]
    split <;> simp

/-- A raise after a change that leaves the ports. -/
theorem LinesKept.raiseAfter (who : Port → PortState → Bool) (c : Cause) (d : Detail) (h : t.ports = s.ports := by rfl) :
    LinesKept s (t.raise who c d) :=
  (LinesKept.of_ports h).trans (.raise ..)

/-- A change that leaves the ports, before one that keeps the lines. -/
theorem LinesKept.after (h' : LinesKept t u) (h : t.ports = s.ports := by rfl) : LinesKept s u := (LinesKept.of_ports h).trans h'

theorem LinesKept.capture (s : State) (k : ErrorKind) (x : Port) (tag : Option Tag) (o : Option ToteNo) :
    LinesKept s (s.capture k x tag o) where
  lines q := by
    rw [State.port_capture]
    split <;> simp

theorem LinesKept.thenIf {c : Prop} [Decidable c] (h : LinesKept s t) (h' : LinesKept t u) : LinesKept s (if c then u else t) := by
  split
  · exact h.trans h'
  · exact h

theorem LinesKept.sameLinesBut (h : LinesKept s t) (p : Port) : s.sameLinesBut t p :=
  ⟨fun q => (h.lines q).1, fun q _ => (h.lines q).2⟩

theorem LinesKept.role (h : LinesKept s t) (q : Port) : (t.port q).role = (s.port q).role := (h.lines q).1.1

theorem LinesKept.announceReturn (s : State) (tag : Tag) (b : CaseState) : LinesKept s (s.announceReturn tag b) := by
  unfold State.announceReturn
  split
  · exact .raise ..
  · exact .refl s

theorem LinesKept.raiseQuarantine (s : State) (tag : Tag) (b : Option Band) : LinesKept s (s.raiseQuarantine tag b) := by
  unfold State.raiseQuarantine
  split
  · exact .raise ..
  · exact .refl s

theorem LinesKept.depart (s : State) (v : ToteNo) : LinesKept s (s.depart v) :=
  .raiseAfter toInductAndStock .swapDone (.tote v)

theorem LinesKept.completeDrain (s : State) (v : ToteNo) : LinesKept s (s.completeDrain v) := by
  obtain ⟨-, h⟩ | ⟨-, -, h⟩ | ⟨-, -, h⟩ := s.completeDrain_cases v <;> rw [h]
  · exact .raiseAfter toInductAndStock .swapDone (.tote v)
  · exact .depart s v
  · exact .refl s

theorem LinesKept.drainIfDone (s : State) (v : ToteNo) : LinesKept s (s.drainIfDone v) := by
  unfold State.drainIfDone
  dsimp only
  split
  · exact .completeDrain s v
  · exact .refl s

theorem LinesKept.handPlace (s : State) : LinesKept s s.handPlace := by
  unfold State.handPlace
  split
  · split
    · exact .depart ..
    · exact .refl s
  · exact .refl s

theorem LinesKept.sweepGoesOn (s : State) (set : List Tag) : LinesKept s (s.sweepGoesOn set) := by
  unfold State.sweepGoesOn
  split
  · exact .raiseAfter ..
  · exact .of_ports rfl

theorem LinesKept.leaveSweep (s : State) (tag : Tag) : LinesKept s (s.leaveSweep tag) := by
  unfold State.leaveSweep
  split
  · exact .refl s
  · split
    · exact .sweepGoesOn ..
    · exact .refl s

/-! Notices -/

/-- What a raise leaves of the notices (R149). -/
theorem State.notice?_raise (s : State) (who : Port → PortState → Bool) (c e : Cause) (d : Detail) (q : Port) :
    ((s.raise who c d).port q).notice? e = if e = c ∧ who q (s.port q) = true then some d else (s.port q).notice? e := by
  rw [State.port_raise]
  by_cases hw : who q (s.port q) = true <;> simp [hw]

theorem State.notice?_raise_of_ne (s : State) (who : Port → PortState → Bool) {c e : Cause} (h : e ≠ c) (d : Detail) (q : Port) :
    ((s.raise who c d).port q).notice? e = (s.port q).notice? e := by
  rw [State.notice?_raise, if_neg fun he => h he.1]

/-- A raise is what `State.notified` says of two states with the same ports but for it. -/
theorem State.notified_raise {who who' : Port → PortState → Bool} {c : Cause} {d : Detail} (hp : ∀ q, u.port q = s.port q)
    (hw : ∀ q, who q (s.port q) = who' q (s.port q)) : s.notified (u.raise who c d) who' c d := fun q e => by
  rw [State.notice?_raise, hp, hw]

/-- What a capture leaves of the notices (R154). -/
theorem State.notice?_capture (s : State) (k : ErrorKind) (x : Port) (tag : Option Tag) (o : Option ToteNo) (q : Port) (e : Cause) :
    ((s.capture k x tag o).port q).notice? e =
      if e = .errorCaptured ∧ ((s.port q).role = .stock ∧ (s.errors.locked = false ∨ s.settings.everyError = true)) then some (.error k)
      else (s.port q).notice? e := by
  rw [State.port_capture]
  by_cases hw : (s.port q).role = .stock ∧ (s.errors.locked = false ∨ s.settings.everyError = true)
  · rw [if_pos hw, PortState.notice?_raised]
    simp only [hw, and_true, and_self]
  · rw [if_neg hw, if_neg fun he => hw he.2]

/-- What a capture leaves of the error capture (R154). -/
theorem State.errors_capture (s : State) (k : ErrorKind) (x : Port) (tag : Option Tag) (o : Option ToteNo) :
    (s.capture k x tag o).errors = s.errorsAfter k x tag o := by
  unfold State.errorsAfter
  by_cases hl : s.errors.locked = true
  · rw [State.capture_locked s hl, if_pos hl]
  · rw [State.capture_unlocked s (by simpa using hl), if_neg hl]
    rfl

/-- A capture changes the error capture and the ports alone. -/
theorem State.capture_eq (s : State) (k : ErrorKind) (x : Port) (tag : Option Tag) (o : Option ToteNo) :
    s.capture k x tag o = (s.withErrors (s.capture k x tag o).errors).withPorts (s.capture k x tag o).ports :=
  (Quiet.capture s k x tag o).rest

/-! A request that a block answers at once -/

/-- The state that a block's answer to a request taken at once leaves. -/
def State.taken (s : State) (p : Port) (num : Byte) (r : Request) (take : State → State × Answer) : State :=
  (take (s.serving p num r)).1.setReply p num r (take (s.serving p num r)).2

/-- A listening port's request that passes the checks is answered by its block. -/
theorem went_arrive_taken {role : Role} {take : State → State × Answer} (h : s.listens p role) (hl : r.len ≤ 160)
    (h1 : knownKind r.kind = true) (h2 : roleAllows role r.kind = true) (h3 : r.lengthFits = true)
    (h4 : needsLive r.kind = false ∨ s.mode = .live) (ht : ∀ s, takeRequest p r s = ready (take s)) :
    went (s.arrive p num r) = .next (s.taken p num r take) :=
  went_arrive_answered h hl h1 h2 h3 h4 (ht _)

section
variable {take : State → State × Answer} {a : Answer}

theorem State.taken_of_eq (h : take (s.serving p num r) = (u, a)) : s.taken p num r take = u.setReply p num r a := by
  rw [State.taken, h]

/-- A block that answers without a change. -/
theorem State.onlyAnswered_taken (h : take (s.serving p num r) = (s.serving p num r, a)) :
    s.onlyAnswered (s.taken p num r take) p num r a.status a.data := by
  rw [State.taken_of_eq h]; exact State.onlyAnswered_setReply a

/-- A block that changes no port. -/
theorem State.answered_taken (h : take (s.serving p num r) = (u, a)) (hp : u.ports = (s.serving p num r).ports) :
    s.answered (s.taken p num r take) p num r a.status a.data := by
  rw [State.taken_of_eq h]; exact State.answered_setReply (fun q => State.port_of_ports hp q) a

theorem State.replied_setReply (u : State) (p : Port) (num : Byte) (r : Request) (a : Answer) :
    (u.setReply p num r a).replied p num r a.status a.data := by
  rw [State.replied, State.port_setReply_self]

theorem State.replied_taken (h : take (s.serving p num r) = (u, a)) : (s.taken p num r take).replied p num r a.status a.data := by
  rw [State.taken_of_eq h]; exact State.replied_setReply ..

/-- A block that changes at most notices at the ports. -/
theorem State.sameLinesBut_taken (h : take (s.serving p num r) = (u, a)) (hu : LinesKept (s.serving p num r) u) :
    s.sameLinesBut (s.taken p num r take) p := by
  rw [State.taken_of_eq h]; exact State.sameLinesBut_setReply s p num r u a hu.lines

theorem State.notice?_taken (h : take (s.serving p num r) = (u, a)) (q : Port) (e : Cause) :
    ((s.taken p num r take).port q).notice? e = (u.port q).notice? e := by
  rw [State.taken_of_eq h]; exact State.notice?_setReply ..

/-- A block that raises one cause as its last act, its ports else unchanged. -/
theorem State.notified_taken {who who' : Port → PortState → Bool} {e : Cause} {d : Detail}
    (h : take (s.serving p num r) = (u.raise who e d, a)) (hw : ∀ q, who q ((s.serving p num r).port q) = who' q (s.port q))
    (hu : ∀ q, u.port q = (s.serving p num r).port q := by intros; rfl) : s.notified (s.taken p num r take) who' e d := fun q x => by
  rw [State.notice?_taken h, State.notice?_raise, hu, hw, State.notice?_serving]

end

/-- The marks of a port set that only depends on the role. -/
theorem toStock_serving (q : Port) : toStock q ((s.serving p num r).port q) = decide ((s.port q).role = .stock) := by
  rw [toStock, State.role_serving]

theorem toStock_iff (q : Port) (x : PortState) : toStock q x = true ↔ x.role = .stock := decide_eq_true_iff

theorem toInduct_iff (q : Port) (x : PortState) : toInduct q x = true ↔ x.role = .induct := decide_eq_true_iff

theorem toInductAndStock_iff (q : Port) (x : PortState) : toInductAndStock q x = true ↔ x.role = .induct ∨ x.role = .stock := by
  simp [toInductAndStock]

theorem toInductAndStock_eq (q : Port) (x : PortState) : toInductAndStock q x = decide (x.role = .induct ∨ x.role = .stock) := by
  simp [toInductAndStock]

end

/-! Device reset, and the state after it -/

theorem State.tote_of_empty {s : State} (h : s.totes = .empty) (u : ToteNo) : s.tote u = .unused := by
  rw [State.tote, h]; rfl

theorem PortState.role_sampled (roles : BitVec 16) (p : Port) : (PortState.sampled roles p.val).role =
    match roles.getLsbD (2 * p.val + 1), roles.getLsbD (2 * p.val) with
    | false, false => .off
    | false, true => .bench
    | true, false => .induct
    | true, true => .stock := by
  show Role.ofStraps _ _ = _
  cases roles.getLsbD (2 * p.val + 1) <;> cases roles.getLsbD (2 * p.val) <;> rfl

/-- Settles O5, part by part, from the state that a device reset writes. -/
theorem deviceResetSetsEveryPart : Obligations.DeviceResetSetsEveryPart := by
  intro roles rate stop s
  refine ⟨_, rfl, fun _ => rfl, rfl, rfl, rfl, fun _ _ => rfl, fun _ => rfl, rfl, fun _ _ => rfl, rfl, fun _ => rfl, rfl, rfl, fun p => ?_,
    rfl, rfl, rfl, fun k => by cases k <;> rfl, rfl, rfl, ?_, rfl, rfl⟩
  · rw [State.port_withPending, State.port_withFreeCount, State.port_afterReset]
    exact ⟨PortState.role_sampled roles p, rfl, rfl, rfl, rfl, fun _ => rfl, rfl, rfl, rfl⟩
  · show LineRate.ofStraps rate = _
    revert rate
    decide

/-- Settles O6: reset is a state that a device reset leaves, which meets every invariant whatever it samples. -/
theorem resetMeetsTheInvariants : Obligations.ResetMeetsTheInvariants := by
  have hport (p : Port) : State.reset.port p = .sampled 0xE555 p.val := State.port_afterReset ..
  have hnone : ∀ {t c}, State.reset.case? t = some c → False := fun h => (by cases h)
  refine ⟨fun p => by rw [hport]; rfl, ⟨fun _ => ⟨rfl, rfl, rfl⟩, fun _ => rfl⟩, ?_, ?_, ?_, ?_, ?_⟩
  · have hf := FloorRanges.of_reset 0xE555 0 false 0 []
    have htables := TableRanges.afterReset 0xE555 0 false
    refine (inRange_iff _).mpr ⟨htables, ⟨by show Calendar.reset.inRange; unfold Calendar.inRange; decide,
      fun _ h => (by cases h), fun _ h => (by cases h)⟩,
      fun _ => (show 1 ≤ Tote.unused.capacity ∧ Tote.unused.capacity ≤ 32 by decide), hf⟩
  · exact (canonical_iff _).mpr ⟨.empty, .empty, rfl, rfl, ⟨rfl, fun _ he => (by cases he)⟩, fun p => (by rw [hport]; rfl), Nat.zero_le 16⟩
  · exact ⟨fun _ _ h => (hnone h).elim, fun _ _ h => (hnone h).elim, fun _ h => (by cases h), List.nodup_nil, List.nodup_nil,
      fun _ => rfl, fun _ => rfl⟩
  · exact ⟨fun _ _ h => (hnone h).elim, fun _ h => (by cases h)⟩
  · exact (toteLaws_iff _).mp (.of_empty rfl rfl)

/-- Settles O18, by what stands in the engine and at the head of the queue. -/
theorem engineTakesOldestSubmission : Obligations.EngineTakesOldestSubmission := by
  refine ⟨fun s x rest c he hq hc => ?_, fun s h => ?_⟩
  · show went s.startComputation = _
    unfold State.startComputation
    simp [he, hq, hc]
  · show went s.startComputation = _
    unfold State.startComputation
    obtain he | hq := h
    · obtain ⟨k, hk⟩ := Option.ne_none_iff_exists'.mp he
      simp [hk]
    · simp [hq]

end Sys2Proof.Machine
end

section
/-! SUPPORT. Cases that leave the table, the sweep's set, Cancel Return, Close Case and Revive Case, and the sweep's visits. -/

namespace Sys2Proof.Machine

/-! A key out of a store -/

theorem length_eraseIn_lt {ν : Type} {k : Nat} {v : ν} :
    ∀ {l : List (Nat × ν)}, findIn k l = some v → (eraseIn k l).length < l.length
  | e :: r, h => by
    unfold findIn at h
    unfold eraseIn
    split
    · exact Nat.lt_succ_of_le (length_eraseIn_le k r)
    next hk =>
      rw [if_neg hk] at h
      exact Nat.succ_lt_succ (length_eraseIn_lt h)

section
variable {s : State} {p : Port} {num : Byte} {r : Request} {tag : Tag} {c : Case} {set : List Tag}

/-! The sweep's set -/

theorem State.sweepGoesOn_of_ne (h : set ≠ []) : s.sweepGoesOn set = s.withCalendar { s.calendar with sweep := some set } :=
  if_neg h

theorem State.sweepGoesOn_nil (s : State) :
    s.sweepGoesOn [] = (s.withCalendar { s.calendar with sweep := none }).raise toStock .dayClosed (.day s.today) :=
  if_pos rfl

theorem filter_ne_eq_nil_iff : (set.filter fun v => v ≠ tag) = [] ↔ ∀ u ∈ set, u = tag := by
  simp [List.filter_eq_nil_iff]

theorem filter_ne_of_not_mem (h : tag ∉ set) : (set.filter fun u => u ≠ tag) = set :=
  List.filter_eq_self.mpr fun _ hu => decide_eq_true fun he => h (he ▸ hu)

/-- A case of the set leaves it. -/
theorem State.leaveSweep_of_mem (hs : s.calendar.sweep = some set) (ht : tag ∈ set) :
    s.leaveSweep tag = s.sweepGoesOn (set.filter fun u => u ≠ tag) := by
  unfold State.leaveSweep
  rw [hs]
  exact if_pos ht

/-- A case leaves the set, and the set is not emptied by that (R143). -/
theorem State.leaveSweep_of_rest (h : ∀ set, s.calendar.sweep = some set → tag ∈ set → ∃ u ∈ set, u ≠ tag) :
    s.leaveSweep tag = s.withCalendar { s.calendar with sweep := s.calendar.sweep.map fun set => set.filter fun u => u ≠ tag } := by
  cases hs : s.calendar.sweep with
  | none =>
    have : s.leaveSweep tag = s := by unfold State.leaveSweep; rw [hs]
    rw [this, Option.map_none, ← hs]
    rfl
  | some set =>
    by_cases ht : tag ∈ set
    · obtain ⟨u, hu, hne⟩ := h set hs ht
      rw [State.leaveSweep_of_mem hs ht, State.sweepGoesOn_of_ne fun he => hne (filter_ne_eq_nil_iff.mp he u hu)]
      rfl
    · have : s.leaveSweep tag = s := by unfold State.leaveSweep; rw [hs]; exact if_neg ht
      rw [this, Option.map_some, filter_ne_of_not_mem ht, ← hs]
      rfl

/-- The last case leaves the set, and the day is closed (R143). -/
theorem State.leaveSweep_last (hs : s.calendar.sweep = some set) (ht : tag ∈ set) (h : ∀ u ∈ set, u = tag) :
    s.leaveSweep tag = (s.withCalendar { s.calendar with sweep := none }).raise toStock .dayClosed (.day s.today) := by
  rw [State.leaveSweep_of_mem hs ht, filter_ne_eq_nil_iff.mpr h, State.sweepGoesOn_nil]

/-! A case out of the table -/

theorem State.size_removeCase (hc : s.case? tag = some c) : (s.removeCase tag).cases.size < s.cases.size := by
  rw [State.removeCase, State.leaveSweep_cases]
  exact length_eraseIn_lt hc

/-- What a request leaves that has taken a case from the table, whatever the sweep. -/
theorem State.removed_taken {take : State → State × Answer} (hc : s.case? tag = some c)
    (h : take (s.serving p num r) = ((s.serving p num r).removeCase tag, .bare .ok)) :
    (s.taken p num r take).replied p num r .ok .none ∧ (s.taken p num r take).case? tag = none ∧
      s.sameCasesBut (s.taken p num r take) tag ∧ (s.taken p num r take).cases.size < s.cases.size := by
  rw [State.taken_of_eq h]
  refine ⟨State.replied_setReply .., ?_, fun v hv => ?_, ?_⟩
  · exact (State.case?_removeCase (s := s.serving p num r) tag tag).trans (if_pos rfl)
  · exact (State.case?_removeCase (s := s.serving p num r) tag v).trans (if_neg hv)
  · exact State.size_removeCase (s := s.serving p num r) hc

/-- A request takes a case from the table, and the set of a sweep in flight is not emptied by that: the first clause of O8. -/
theorem State.removed_taken_rest {take : State → State × Answer} (hc : s.case? tag = some c)
    (h : take (s.serving p num r) = ((s.serving p num r).removeCase tag, .bare .ok)) :
    (s.taken p num r take).replied p num r .ok .none ∧ (s.taken p num r take).case? tag = none ∧
      s.sameCasesBut (s.taken p num r take) tag ∧ (s.taken p num r take).cases.size < s.cases.size ∧
      ((∀ set, s.calendar.sweep = some set → tag ∈ set → ∃ u ∈ set, u ≠ tag) →
        s.answered (s.taken p num r take) p num r .ok .none ∧
        s.taken p num r take = ((s.withCases (s.taken p num r take).cases).withCalendar
          { s.calendar with sweep := s.calendar.sweep.map fun set => set.filter fun u => u ≠ tag }).withPorts
            (s.taken p num r take).ports) := by
  obtain ⟨h1, h2, h3, h4⟩ := State.removed_taken hc h
  refine ⟨h1, h2, h3, h4, fun hset => ?_⟩
  have hrest := State.leaveSweep_of_rest (s := (s.serving p num r).withCases ((s.serving p num r).cases.erase tag.toNat)) hset
  rw [State.removeCase, hrest] at h
  refine ⟨State.answered_taken h rfl, ?_⟩
  rw [State.taken_of_eq h]
  rfl

/-- A request takes from the table the last case of a sweep's set: the last clause of O44. -/
theorem State.removed_taken_last {take : State → State × Answer} (hc : s.case? tag = some c)
    (h : take (s.serving p num r) = ((s.serving p num r).removeCase tag, .bare .ok))
    (hs : s.calendar.sweep = some set) (ht : tag ∈ set) (hall : ∀ u ∈ set, u = tag) :
    (s.taken p num r take).replied p num r .ok .none ∧ (s.taken p num r take).case? tag = none ∧
      s.sameCasesBut (s.taken p num r take) tag ∧ (s.taken p num r take).calendar = { s.calendar with sweep := none } ∧
      s.notified (s.taken p num r take) (fun _ x => decide (x.role = .stock)) .dayClosed (.day s.calendar.day) ∧
      s.sameLinesBut (s.taken p num r take) p ∧
      s.taken p num r take = ((s.withCases (s.taken p num r take).cases).withCalendar (s.taken p num r take).calendar).withPorts
        (s.taken p num r take).ports := by
  obtain ⟨h1, h2, h3, -⟩ := State.removed_taken hc h
  have hlast := State.leaveSweep_last (s := (s.serving p num r).withCases ((s.serving p num r).cases.erase tag.toNat)) hs ht hall
  rw [State.removeCase, hlast] at h
  refine ⟨h1, h2, h3, ?_, State.notified_taken h toStock_serving, State.sameLinesBut_taken h (.raiseAfter ..), ?_⟩
  · rw [State.taken_of_eq h]; rfl
  · rw [State.taken_of_eq h]; rfl

/-! The requests -/

theorem exec_cancelReturn (h : s.listens p .stock) (num : Byte) (tag : Tag) :
    exec (.cancelReturn p num tag) s = .next (s.taken p num (.cancelReturn tag) (takeCancelReturn tag)) :=
  went_arrive_taken h (by decide : 6 ≤ 160) rfl rfl rfl (.inl rfl) fun _ => rfl

theorem exec_closeCase (h : s.listens p .stock) (num : Byte) (tag : Tag) :
    exec (.closeCase p num tag) s = .next (s.taken p num (.closeCase tag) (takeCloseCase tag)) :=
  went_arrive_taken h (by decide : 6 ≤ 160) rfl rfl rfl (.inl rfl) fun _ => rfl

theorem exec_reviveCase (h : s.listens p .stock) (num : Byte) (tag : Tag) :
    exec (.reviveCase p num tag) s = .next (s.taken p num (.reviveCase tag) (takeReviveCase tag)) :=
  went_arrive_taken h (by decide : 6 ≤ 160) rfl rfl rfl (.inl rfl) fun _ => rfl

theorem takeCancelReturn_removes (hc : s.case? tag = some c) (hs : c.state = .expected ∨ c.state = .lapsed) :
    takeCancelReturn tag s = (s.removeCase tag, .bare .ok) := by
  simp only [takeCancelReturn, hc, if_pos hs]

theorem takeCancelReturn_wrongState (hc : s.case? tag = some c) (hs : ¬ (c.state = .expected ∨ c.state = .lapsed)) :
    takeCancelReturn tag s = (s, { status := .wrongState, data := .caseState c.state }) := by
  simp only [takeCancelReturn, hc, if_neg hs]

theorem takeCancelReturn_unknownTag (hc : s.case? tag = none) : takeCancelReturn tag s = (s, .bare .unknownTag) := by
  simp only [takeCancelReturn, hc]

theorem takeCloseCase_removes (hc : s.case? tag = some c) (hs : c.state = .lapsed ∨ c.state = .placed ∧ c.location = .departed) :
    takeCloseCase tag s = (s.removeCase tag, .bare .ok) := by
  simp only [takeCloseCase, hc, if_pos hs]

theorem takeCloseCase_wrongState (hc : s.case? tag = some c)
    (hs : ¬ (c.state = .lapsed ∨ c.state = .placed ∧ c.location = .departed)) :
    takeCloseCase tag s = (s, { status := .wrongState, data := .stateLocation c.state c.location }) := by
  simp only [takeCloseCase, hc, if_neg hs]

theorem takeCloseCase_unknownTag (hc : s.case? tag = none) : takeCloseCase tag s = (s, .bare .unknownTag) := by
  simp only [takeCloseCase, hc]

theorem takeReviveCase_revives (hc : s.case? tag = some c) (hs : c.state = .lapsed) :
    takeReviveCase tag s = (s.setCase tag { c with state := .expected, openedDay := s.today }, .bare .ok) := by
  simp only [takeReviveCase, hc, if_pos hs]

theorem takeReviveCase_wrongState (hc : s.case? tag = some c) (hs : c.state ≠ .lapsed) :
    takeReviveCase tag s = (s, { status := .wrongState, data := .caseState c.state }) := by
  simp only [takeReviveCase, hc, if_neg hs]

theorem takeReviveCase_unknownTag (hc : s.case? tag = none) : takeReviveCase tag s = (s, .bare .unknownTag) := by
  simp only [takeReviveCase, hc]

/-- What a request leaves that has rewritten one case and nothing else. -/
theorem State.rewritten_taken {take : State → State × Answer} {a : Answer} {c' : Case}
    (h : take (s.serving p num r) = ((s.serving p num r).setCase tag c', a)) :
    s.answered (s.taken p num r take) p num r a.status a.data ∧
      s.taken p num r take = (s.withCases (s.taken p num r take).cases).withPorts (s.taken p num r take).ports ∧
      (s.taken p num r take).case? tag = some c' ∧ s.sameCasesBut (s.taken p num r take) tag := by
  refine ⟨State.answered_taken h rfl, ?_, ?_, fun v hv => ?_⟩ <;> rw [State.taken_of_eq h]
  · rfl
  · exact (State.case?_setCase (s.serving p num r) tag tag c').trans (if_pos rfl)
  · exact (State.case?_setCase (s.serving p num r) tag v c').trans (if_neg hv)

end

/-- Settles O8, request by request and check by check. -/
theorem cancelCloseAndReviveCases : Obligations.CancelCloseAndReviveCases := by
  refine ⟨fun s p num tag hs => ⟨⟨_, exec_cancelReturn hs num tag, ?cancel⟩, ⟨_, exec_closeCase hs num tag, ?close⟩⟩,
    fun s p num tag hs => ⟨_, exec_reviveCase hs num tag, ?revive⟩⟩
  case cancel =>
    split
    next hc => exact State.onlyAnswered_taken (takeCancelReturn_unknownTag hc)
    next c hc =>
      split
      next hst => exact State.removed_taken_rest hc (takeCancelReturn_removes hc hst)
      next hst => exact State.onlyAnswered_taken (takeCancelReturn_wrongState hc hst)
  case close =>
    split
    next hc => exact State.onlyAnswered_taken (takeCloseCase_unknownTag hc)
    next c hc =>
      split
      next hst => exact State.removed_taken_rest hc (takeCloseCase_removes hc hst)
      next hst => exact State.onlyAnswered_taken (takeCloseCase_wrongState hc hst)
  case revive =>
    split
    next hc => exact State.onlyAnswered_taken (takeReviveCase_unknownTag hc)
    next c hc =>
      split
      next hst => exact State.rewritten_taken (takeReviveCase_revives hc hst)
      next hst => exact State.onlyAnswered_taken (takeReviveCase_wrongState hc hst)

/-! The sweep's visits -/

section
variable {s : State} {tag : Tag} {c : Case} {set : List Tag}

theorem Case.overdue_iff (c : Case) (today limit : Nat) :
    c.overdue today limit = true ↔ c.state = .expected ∧ c.openedDay ≤ today ∧ limit < today - c.openedDay := by
  simp [Case.overdue, and_assoc]

/-- The case that a visit finds, before the tag leaves the set (R143). -/
def State.examined (s : State) (tag : Tag) : State :=
  match s.case? tag with
  | some c =>
    if c.overdue s.today s.settings.expectLimit then
      (s.setCase tag { c with state := .lapsed }).raise toStock .caseLapsed (.tag tag)
    else s
  | none => s

theorem State.visit_of_mem (hs : s.calendar.sweep = some set) (ht : tag ∈ set) : s.visit tag = (s.examined tag).leaveSweep tag := by
  unfold State.visit
  rw [hs]
  exact if_pos ht

theorem State.visit_of_not_mem (h : ∀ set, s.calendar.sweep = some set → tag ∉ set) : s.visit tag = s := by
  unfold State.visit
  cases hs : s.calendar.sweep with
  | none => rfl
  | some set => exact if_neg (h set hs)

theorem State.examined_overdue (hc : s.case? tag = some c) (ho : c.overdue s.today s.settings.expectLimit = true) :
    s.examined tag = (s.setCase tag { c with state := .lapsed }).raise toStock .caseLapsed (.tag tag) := by
  simp only [State.examined, hc, if_pos ho]

theorem State.examined_not_overdue (h : ∀ c, s.case? tag = some c → ¬ c.overdue s.today s.settings.expectLimit = true) :
    s.examined tag = s := by
  unfold State.examined
  cases hc : s.case? tag with
  | none => rfl
  | some c => exact if_neg (h c hc)

/-- The two outcomes of an examination. -/
theorem State.examined_cases (s : State) (tag : Tag) :
    (∃ c, s.case? tag = some c ∧ c.overdue s.today s.settings.expectLimit = true ∧
      s.examined tag = (s.setCase tag { c with state := .lapsed }).raise toStock .caseLapsed (.tag tag)) ∨
    (∀ c, s.case? tag = some c → ¬ c.overdue s.today s.settings.expectLimit = true) ∧ s.examined tag = s := by
  by_cases h : ∃ c, s.case? tag = some c ∧ c.overdue s.today s.settings.expectLimit = true
  · obtain ⟨c, hc, ho⟩ := h
    exact .inl ⟨c, hc, ho, State.examined_overdue hc ho⟩
  · have h' : ∀ c, s.case? tag = some c → ¬ c.overdue s.today s.settings.expectLimit = true := fun c hc ho => h ⟨c, hc, ho⟩
    exact .inr ⟨h', State.examined_not_overdue h'⟩

theorem State.examined_eq (s : State) (tag : Tag) :
    s.examined tag = (s.withCases (s.examined tag).cases).withPorts (s.examined tag).ports := by
  obtain ⟨c, -, -, h⟩ | ⟨-, h⟩ := s.examined_cases tag <;> rw [h] <;> rfl

theorem LinesKept.examined (s : State) (tag : Tag) : LinesKept s (s.examined tag) := by
  obtain ⟨c, -, -, h⟩ | ⟨-, h⟩ := s.examined_cases tag <;> rw [h]
  · exact .raiseAfter ..
  · exact .refl s

theorem State.notice?_examined_of_ne (s : State) (tag : Tag) {e : Cause} (h : e ≠ .caseLapsed) (q : Port) :
    ((s.examined tag).port q).notice? e = (s.port q).notice? e := by
  obtain ⟨c, -, -, hx⟩ | ⟨-, hx⟩ := s.examined_cases tag <;> rw [hx]
  exact State.notice?_raise_of_ne _ _ h _ q

/-- What the end of a visit leaves of the notices. -/
theorem State.notice?_sweepGoesOn (s : State) (set : List Tag) (q : Port) (e : Cause) :
    ((s.sweepGoesOn set).port q).notice? e =
      if set = [] ∧ e = .dayClosed ∧ (s.port q).role = .stock then some (.day s.today) else (s.port q).notice? e := by
  by_cases h : set = []
  · subst h
    rw [State.sweepGoesOn_nil, State.notice?_raise]
    simp [toStock_iff]
  · rw [State.sweepGoesOn_of_ne h, if_neg fun hh => h hh.1]
    rfl

theorem State.calendar_sweepGoesOn (s : State) (set : List Tag) :
    (s.sweepGoesOn set).calendar = { s.calendar with sweep := if set = [] then none else some set } := by
  by_cases h : set = []
  · subst h; rw [State.sweepGoesOn_nil]; rfl
  · rw [State.sweepGoesOn_of_ne h, if_neg h]; rfl

theorem State.sweepGoesOn_eq (s : State) (set : List Tag) :
    s.sweepGoesOn set = (s.withCalendar (s.sweepGoesOn set).calendar).withPorts (s.sweepGoesOn set).ports := by
  by_cases h : set = []
  · subst h; rw [State.sweepGoesOn_nil]; rfl
  · rw [State.sweepGoesOn_of_ne h]; rfl

end

/-- Settles O44: a visit examines its case and leaves the set, and the tags outside the set, and the last ones of it, by their own lemmas. -/
theorem sweepVisitsEachCaseOnce : Obligations.SweepVisitsEachCaseOnce := by
  refine ⟨fun s tag set hs ht => ?visit, fun s tag h => congrArg went (State.visit_of_not_mem h), fun s p num tag c set hl hc hs ht hall =>
    ⟨fun hst => ⟨_, exec_cancelReturn hl num tag, State.removed_taken_last hc (takeCancelReturn_removes hc hst) hs ht hall⟩,
      fun hst => ⟨_, exec_closeCase hl num tag, State.removed_taken_last hc (takeCloseCase_removes hc hst) hs ht hall⟩⟩⟩
  case visit =>
    intro overdue rest
    have hvisit : s.visit tag = (s.examined tag).sweepGoesOn rest :=
      (State.visit_of_mem hs ht).trans (State.leaveSweep_of_mem (by rw [State.examined_eq]; exact hs) ht)
    have hcal : (s.examined tag).calendar = s.calendar := by rw [State.examined_eq]; rfl
    have htoday : (s.examined tag).today = s.calendar.day := congrArg Calendar.day hcal
    have hcases : ((s.examined tag).sweepGoesOn rest).cases = (s.examined tag).cases := State.sweepGoesOn_cases ..
    have hrole (q : Port) : ((s.examined tag).port q).role = (s.port q).role := (LinesKept.examined s tag).role q
    refine ⟨_, congrArg went hvisit, fun v hv => ?_, fun c hc ho => ?_, fun hno => ?_, fun hr => ?_, fun hr => ?_, fun q e h1 h2 => ?_,
      fun q => ((LinesKept.examined s tag).trans (.sweepGoesOn ..)).sameLinesBut q, ?_⟩
    · rw [State.case?_of_cases hcases]
      obtain ⟨c, -, -, h⟩ | ⟨-, h⟩ := s.examined_cases tag <;> rw [h]
      exact (State.case?_setCase ..).trans (if_neg hv)
    · have hx := State.examined_overdue hc ((c.overdue_iff ..).mpr ho)
      constructor
      · rw [State.case?_of_cases hcases, hx]
        exact (State.case?_setCase ..).trans (if_pos rfl)
      · intro q
        rw [State.notice?_sweepGoesOn, if_neg (by simp), hx, State.notice?_raise]
        simp [toStock_iff]
    · have hx := State.examined_not_overdue fun c hc ho => hno c hc ((c.overdue_iff ..).mp ho)
      exact ⟨hcases.trans (by rw [hx]), fun q => by rw [State.notice?_sweepGoesOn, if_neg (by simp), hx]⟩
    · refine ⟨by rw [State.calendar_sweepGoesOn, hcal, if_neg hr], fun q => ?_⟩
      rw [State.notice?_sweepGoesOn, if_neg fun h => hr h.1, State.notice?_examined_of_ne s tag (by simp)]
    · refine ⟨by rw [State.calendar_sweepGoesOn, hcal, if_pos hr], fun q => ?_⟩
      rw [State.notice?_sweepGoesOn, hrole, htoday, State.notice?_examined_of_ne s tag (by simp)]
      simp [hr]
    · rw [State.notice?_sweepGoesOn, if_neg fun h => h2 h.2.1, State.notice?_examined_of_ne s tag h1]
    · rw [State.sweepGoesOn_eq, State.examined_eq]
      rfl

end Sys2Proof.Machine
end

section
/-! SUPPORT. Fetch Case and its blind view, and the life of a hold: Claim Case, Release Case, the hold lapse, Submit Grade, and what the
removal of a tag does to its tote. -/

namespace Sys2Proof.Machine

section
variable {s t : State} {p : Port} {num : Byte} {tag : Tag} {c c' : Case} {role : Role}

/-! Fetch Case -/

theorem exec_fetchCase (h : s.listens p role) (num : Byte) (tag : Tag) :
    exec (.fetchCase p num tag) s = .next (s.taken p num (.fetchCase tag) (takeFetchCase p tag)) :=
  went_arrive_taken h (by decide : 6 ≤ 160) rfl rfl rfl (.inl rfl) fun _ => rfl

theorem takeFetchCase_unknownTag (hc : s.case? tag = none) : takeFetchCase p tag s = (s, .bare .unknownTag) := by
  simp only [takeFetchCase, hc]

theorem takeFetchCase_known (hc : s.case? tag = some c) :
    takeFetchCase p tag s = (s, { status := .ok, data := .caseRecord tag (c.viewFor (s.port p).role) }) := by
  simp only [takeFetchCase, hc]

theorem Case.viewFor_shown (h : ¬ (role = .bench ∧ c.awaitsAudit)) : c.viewFor role = c.shown :=
  if_neg fun hb => h ⟨hb.1, c.auditUnresolved_iff.mp hb.2⟩

/-- The blind view hides the first verdict; the audit part shows no resolution because there is none. -/
theorem Case.viewFor_blind (hr : role = .bench) (ha : c.awaitsAudit) :
    c.viewFor role = { c.shown with firstGrade := none, finalBand := none, refundGate := none } := by
  rw [Case.viewFor, if_pos ⟨hr, c.auditUnresolved_iff.mpr ha⟩]
  obtain ⟨a, hau, -, hres⟩ := ha
  have hsame : c.audit.map (fun a => { a with resolution := none }) = c.audit := by
    obtain ⟨sel, res⟩ := a
    cases hres
    rw [hau]; rfl
  unfold Case.blind
  rw [show c.shown.audit = c.audit from rfl, hsame]
  rfl

/-- What a listening port's Fetch Case of a known case is answered with. -/
theorem fetchCase_known (h : s.listens p role) (hc : s.case? tag = some c) :
    s.onlyAnswered (s.taken p num (.fetchCase tag) (takeFetchCase p tag)) p num (.fetchCase tag) .ok
      (.caseRecord tag (c.viewFor role)) := by
  have hrole : ((s.serving p num (.fetchCase tag)).port p).role = role := (State.role_serving p).trans h.1
  have := takeFetchCase_known (p := p) (s := s.serving p num (.fetchCase tag)) hc
  rw [hrole] at this
  exact State.onlyAnswered_taken this

end

/-- Settles O10, by whether the case is known, and by the view that the port's role gives. -/
theorem fetchCaseShowsTheRecord : Obligations.FetchCaseShowsTheRecord := by
  intro s p role num tag hs
  refine ⟨_, exec_fetchCase hs num tag, ?_⟩
  split
  next hc => exact State.onlyAnswered_taken (takeFetchCase_unknownTag hc)
  next c hc =>
    refine ⟨fun hv => ?_, fun hv => ?_⟩
    · rw [← Case.viewFor_shown hv]; exact fetchCase_known hs hc
    · rw [← Case.viewFor_blind hv.1 hv.2]; exact fetchCase_known hs hc

theorem State.replied.replyAt {t : State} {p : Port} {num : Byte} {r : Request} {st : Status} {d : ReplyData}
    (h : t.replied p num r st d) : t.replyAt p = some { kind := r.kind, num := num, status := st, data := d } := by
  rw [State.replyAt, h]; rfl

/-- Settles O11: the blind view is the same record for both cases. -/
theorem blindViewHidesTheVerdict : Obligations.BlindViewHidesTheVerdict := by
  intro s s' t t' p num tag c c' hs hs' hc hc' ha ha' heq ht ht'
  obtain rfl := Host.Outcome.next.inj ((exec_fetchCase hs num tag).symm.trans ht)
  obtain rfl := Host.Outcome.next.inj ((exec_fetchCase hs' num tag).symm.trans ht')
  have hview : c.viewFor .bench = c'.viewFor .bench := by
    rw [Case.viewFor_blind rfl ha, Case.viewFor_blind rfl ha', heq]
    rfl
  obtain ⟨-, -, h⟩ := fetchCase_known (num := num) hs hc
  obtain ⟨-, -, h'⟩ := fetchCase_known (num := num) hs' hc'
  rw [h.replyAt, h'.replyAt, hview]

section
variable {s t : State} {p : Port} {num : Byte} {tag : Tag} {c c' : Case}

/-! Claim Case -/

theorem exec_claimCase_taken (h : s.listens p .bench) (hlive : s.mode = .live) (num : Byte) (tag : Tag) :
    exec (.claimCase p num tag) s = .next (s.taken p num (.claimCase tag) (takeClaimCase p tag)) :=
  exec_claimCase h hlive num tag

theorem takeClaimCase_unknownTag (hc : s.case? tag = none) : takeClaimCase p tag s = (s, .bare .unknownTag) := by
  simp only [takeClaimCase, hc]

theorem takeClaimCase_expected (hc : s.case? tag = some c) (hs : c.state = .expected) :
    takeClaimCase p tag s = (s.setCase tag (c.heldBy (s.newHold p) .onBench), claimReply .ok c (s.newHold p)) := by
  simp only [takeClaimCase, hc, hs, claimExpected]

theorem takeClaimCase_renewed {h : Hold} (hc : s.case? tag = some c) (hs : c.state = .onBench ∨ c.state = .onAudit)
    (hh : c.holder = some h) (hp : h.port = p) :
    takeClaimCase p tag s = (s.setCase tag { c with holder := some (s.newHold p) }, claimReply .renewed c (s.newHold p)) := by
  have : claimHeld p tag c s = (s.setCase tag { c with holder := some (s.newHold p) }, claimReply .renewed c (s.newHold p)) := by
    simp only [claimHeld, hh, if_pos hp]
  rcases hs with hs | hs <;> simp only [takeClaimCase, hc, hs, this]

theorem takeClaimCase_heldElsewhere {h : Hold} (hc : s.case? tag = some c) (hs : c.state = .onBench ∨ c.state = .onAudit)
    (hh : c.holder = some h) (hp : h.port ≠ p) :
    takeClaimCase p tag s = (s, { status := .heldElsewhere, data := .holderPort h.port }) := by
  have : claimHeld p tag c s = (s, { status := .heldElsewhere, data := .holderPort h.port }) := by
    simp only [claimHeld, hh, if_neg hp]
  rcases hs with hs | hs <;> simp only [takeClaimCase, hc, hs, this]

theorem takeClaimCase_lapsed (hc : s.case? tag = some c) (hs : c.state = .lapsed) :
    takeClaimCase p tag s = (s, .bare .caseLapsed) := by
  simp only [takeClaimCase, hc, hs]

theorem takeClaimCase_wrongState (hc : s.case? tag = some c)
    (hs : c.state = .grading ∨ c.state = .graded ∨ c.state = .routed ∨ c.state = .placed) :
    takeClaimCase p tag s = (s, { status := .wrongState, data := .caseState c.state }) := by
  rcases hs with hs | hs | hs | hs <;> simp only [takeClaimCase, hc, hs]

theorem Case.partsFit.exists_holder (h : c.partsFit) (hs : c.state = .onBench ∨ c.state = .onAudit) : ∃ k, c.holder = some k :=
  Option.isSome_iff_exists.mp (h.1.mpr hs)

end

/-- Settles O12, state by state. -/
theorem claimCaseTakesOrRenews : Obligations.ClaimCaseTakesOrRenews := by
  intro s p num tag hs hlive hfit
  refine ⟨_, exec_claimCase_taken hs hlive num tag, ?_⟩
  split
  next hc => exact State.onlyAnswered_taken (takeClaimCase_unknownTag hc)
  next c hc =>
    intro deadline
    refine ⟨fun hst => ?_, fun hst => ?_, fun hst => State.onlyAnswered_taken (takeClaimCase_lapsed hc hst),
      fun hst => State.onlyAnswered_taken (takeClaimCase_wrongState hc hst)⟩
    · obtain ⟨h1, h2, h3, h4⟩ := State.rewritten_taken (takeClaimCase_expected (s := s.serving p num (.claimCase tag)) hc hst)
      exact ⟨h1, h2, h4, h3⟩
    · obtain ⟨k, hk⟩ := (hfit c hc).1.exists_holder hst
      refine ⟨k, hk, fun hp => ?_, fun hp => State.onlyAnswered_taken (takeClaimCase_heldElsewhere hc hst hk hp)⟩
      obtain ⟨h1, h2, h3, h4⟩ := State.rewritten_taken (takeClaimCase_renewed (s := s.serving p num (.claimCase tag)) hc hst hk hp)
      exact ⟨h1, h2, h4, h3⟩

section
variable {s t : State} {p : Port} {num : Byte} {tag : Tag} {c c' : Case}

/-! Ends of holds -/

theorem Case.returned_onBench (h : c.state = .onBench) : c.returned = { c with holder := none, state := .expected } := by
  unfold Case.returned; rw [h]

theorem Case.returned_onAudit (h : c.state = .onAudit) :
    c.returned = { c with holder := none, state := .auditWait, location := .none } := by
  unfold Case.returned; rw [h]

theorem State.releaseHold_known (hc : s.case? tag = some c) : s.releaseHold tag = (s.setCase tag c.returned).announceReturn tag c.state := by
  simp only [State.releaseHold, hc]

theorem State.announceReturn_onAudit (s : State) (tag : Tag) : s.announceReturn tag .onAudit = s.raiseAuditReady tag := if_pos rfl

theorem State.announceReturn_of_ne {b : CaseState} (h : b ≠ .onAudit) : s.announceReturn tag b = s := if_neg h

/-- What the announcement of a return leaves of the notices (R93). -/
theorem State.notice?_announceReturn (s : State) (tag : Tag) (b : CaseState) (q : Port) (e : Cause) :
    ((s.announceReturn tag b).port q).notice? e =
      if b = .onAudit ∧ e = .auditReady ∧ s.auditCapable q = true then some (.tag tag) else (s.port q).notice? e := by
  by_cases hb : b = .onAudit
  · subst hb
    rw [State.announceReturn_onAudit, State.raiseAuditReady, State.notice?_raise]
    simp
  · rw [State.announceReturn_of_ne hb, if_neg fun h => hb h.1]

theorem State.announceReturn_eq (s : State) (tag : Tag) (b : CaseState) :
    s.announceReturn tag b = s.withPorts (s.announceReturn tag b).ports := by
  unfold State.announceReturn
  split <;> rfl

theorem exec_releaseCase (h : s.listens p .bench) (hlive : s.mode = .live) (num : Byte) (tag : Tag) :
    exec (.releaseCase p num tag) s = .next (s.taken p num (.releaseCase tag) (takeReleaseCase p tag)) :=
  went_arrive_taken h (by decide : 6 ≤ 160) rfl rfl rfl (.inr hlive) fun _ => rfl

theorem takeReleaseCase_unknownTag (hc : s.case? tag = none) : takeReleaseCase p tag s = (s, .bare .unknownTag) := by
  simp only [takeReleaseCase, hc]

theorem takeReleaseCase_releases (hc : s.case? tag = some c) (hh : c.holder.map (·.port) = some p) :
    takeReleaseCase p tag s = ((s.setCase tag c.returned).announceReturn tag c.state, .bare .ok) := by
  simp only [takeReleaseCase, hc, Case.isHeldBy, decide_eq_true hh, if_true, State.releaseHold_known hc]

theorem takeReleaseCase_notHolder (hc : s.case? tag = some c) (hh : ¬ c.holder.map (·.port) = some p) :
    takeReleaseCase p tag s = (s, c.holderReply .notHolder) := by
  simp only [takeReleaseCase, hc, Case.isHeldBy, decide_eq_false hh, Bool.false_eq_true, if_false]

end

/-- Settles O15, check by check; what the case becomes and whether it is announced follow from its state. -/
theorem releaseCaseReturnsHeldCase : Obligations.ReleaseCaseReturnsHeldCase := by
  intro s p num tag hs hlive hfit
  refine ⟨_, exec_releaseCase hs hlive num tag, ?_⟩
  split
  next hc => exact State.onlyAnswered_taken (takeReleaseCase_unknownTag hc)
  next c hc =>
    split
    next hh =>
      have htake := takeReleaseCase_releases (s := s.serving p num (.releaseCase tag)) hc hh
      have hcase (v : Tag) : (s.taken p num (.releaseCase tag) (takeReleaseCase p tag)).case? v =
          if v = tag then some c.returned else s.case? v := by
        rw [State.taken_of_eq htake, State.announceReturn_eq]
        exact State.case?_setCase (s.serving p num (.releaseCase tag)) tag v c.returned
      have hnotice (q : Port) (e : Cause) := (State.notice?_taken htake q e).trans (State.notice?_announceReturn ..)
      refine ⟨State.replied_taken htake, State.sameLinesBut_taken htake (.after (.announceReturn ..)), ?_,
        fun v hv => (hcase v).trans (if_neg hv), fun hst => ⟨?_, fun q e => ?_⟩, fun hst => ⟨?_, fun q e => ?_⟩⟩
      · rw [State.taken_of_eq htake, State.announceReturn_eq]; rfl
      · rw [hcase, if_pos rfl, Case.returned_onBench hst]
      · rw [hnotice, if_neg (by simp [hst])]
        exact State.notice?_serving ..
      · rw [hcase, if_pos rfl, Case.returned_onAudit hst]
      · rw [hnotice, State.port_setCase, State.notice?_serving]
        simp only [hst, true_and]
        rfl
    next hh => exact State.onlyAnswered_taken (takeReleaseCase_notHolder hc hh)

section
variable {s t : State} {p : Port} {num : Byte} {tag : Tag} {c c' : Case}

/-! The hold lapse -/

theorem State.takeHoldLapse_due {h : Hold} (hc : s.case? tag = some c) (hh : c.holder = some h) (hd : h.due = true) :
    s.takeHoldLapse tag = s.lapseHold tag c h := by
  simp only [State.takeHoldLapse, hc, hh, hd, if_true]

theorem State.case?_capture (s : State) (k : ErrorKind) (x : Port) (tag : Option Tag) (o : Option ToteNo) (v : Tag) :
    (s.capture k x tag o).case? v = s.case? v := by
  rw [State.capture_eq]; rfl

theorem State.settings_capture (s : State) (k : ErrorKind) (x : Port) (tag : Option Tag) (o : Option ToteNo) :
    (s.capture k x tag o).settings = s.settings := by
  rw [State.capture_eq]; rfl

/-- The state in which a lapse is captured: the case has returned (R35). -/
def State.heldBack (s : State) (tag : Tag) (c : Case) (h : Hold) : State :=
  (s.setCase tag { c.returned with lastLapsedHolder := some h.port }).announceReturn tag c.state

theorem State.lapseHold_eq_raise (s : State) (tag : Tag) (c : Case) (h : Hold) :
    s.lapseHold tag c h = ((s.heldBack tag c h).capture .holdLapsed h.port (some tag) none).raise (toPortAndStock h.port) .holdLapsed (.tag tag) :=
  rfl

theorem State.heldBack_eq (s : State) (tag : Tag) (c : Case) (h : Hold) :
    s.heldBack tag c h =
      (s.setCase tag { c.returned with lastLapsedHolder := some h.port }).withPorts (s.heldBack tag c h).ports :=
  State.announceReturn_eq ..

theorem LinesKept.heldBack (s : State) (tag : Tag) (c : Case) (h : Hold) : LinesKept s (s.heldBack tag c h) :=
  .after (.announceReturn (s.setCase tag { c.returned with lastLapsedHolder := some h.port }) tag c.state)

theorem LinesKept.lapseHold (s : State) (tag : Tag) (c : Case) (h : Hold) : LinesKept s (s.lapseHold tag c h) :=
  ((LinesKept.heldBack s tag c h).trans (.capture ..)).trans (.raise ..)

theorem State.case?_lapseHold (s : State) (tag : Tag) (c : Case) (h : Hold) (v : Tag) :
    (s.lapseHold tag c h).case? v = if v = tag then some { c.returned with lastLapsedHolder := some h.port } else s.case? v := by
  rw [State.lapseHold_eq_raise, State.case?_raise, State.case?_capture, State.heldBack_eq]
  exact State.case?_setCase ..

theorem State.errors_lapseHold (s : State) (tag : Tag) (c : Case) (h : Hold) :
    (s.lapseHold tag c h).errors = s.errorsAfter .holdLapsed h.port (some tag) none := by
  rw [State.lapseHold_eq_raise, State.raise_errors, State.errors_capture, State.heldBack_eq]
  rfl

/-- What a lapse leaves of the notices (R36, R93, R154). -/
theorem State.notice?_lapseHold (s : State) (tag : Tag) (c : Case) (h : Hold) (q : Port) (e : Cause) :
    ((s.lapseHold tag c h).port q).notice? e =
      if e = .holdLapsed ∧ (q = h.port ∨ (s.port q).role = .stock) then some (.tag tag)
      else if e = .errorCaptured ∧ (s.port q).role = .stock ∧ (s.errors.locked = false ∨ s.settings.everyError = true) then some (.error .holdLapsed)
      else if c.state = .onAudit ∧ e = .auditReady ∧ s.auditCapable q = true then some (.tag tag)
      else (s.port q).notice? e := by
  have hrole := (LinesKept.heldBack s tag c h).role q
  have hrole' := ((LinesKept.heldBack s tag c h).trans (.capture _ .holdLapsed h.port (some tag) none)).role q
  have herrors : (s.heldBack tag c h).errors = s.errors ∧ (s.heldBack tag c h).settings = s.settings := by
    rw [State.heldBack_eq]; exact ⟨rfl, rfl⟩
  rw [State.lapseHold_eq_raise, State.notice?_raise, State.notice?_capture, hrole, herrors.1, herrors.2]
  have hwho : toPortAndStock h.port q (((s.heldBack tag c h).capture .holdLapsed h.port (some tag) none).port q) = true ↔
      q = h.port ∨ (s.port q).role = .stock := by
    simp [toPortAndStock, hrole']
  simp only [hwho]
  congr 2
  exact State.notice?_announceReturn ..

theorem State.lapseHold_eq (s : State) (tag : Tag) (c : Case) (h : Hold) :
    s.lapseHold tag c h =
      ((s.withCases (s.lapseHold tag c h).cases).withErrors (s.lapseHold tag c h).errors).withPorts (s.lapseHold tag c h).ports := by
  rw [State.lapseHold_eq_raise, State.capture_eq, State.heldBack_eq]
  rfl

end

/-- Settles O16: the case, the capture and the notices of a lapse, each by its lemma; a hold not due is left as it is. -/
theorem holdLapseReturnsAndReports : Obligations.HoldLapseReturnsAndReports := by
  refine ⟨fun s tag c h hc hh hd hfit => ?_, fun s tag hnot => congrArg went (State.takeHoldLapse_not_due hnot)⟩
  have hst := hfit.held hh
  have hcase := s.case?_lapseHold tag c h
  have hnotice := s.notice?_lapseHold tag c h
  refine ⟨_, congrArg went (State.takeHoldLapse_due hc hh hd), hst, ?_, fun v hv => (hcase v).trans (if_neg hv), s.errors_lapseHold tag c h,
    fun q => ?_, fun q => ⟨fun ht => ?_, fun ht => ?_⟩, fun q => ?_, fun q e h1 h2 h3 => ?_,
    fun q => (LinesKept.lapseHold s tag c h).sameLinesBut q, s.lapseHold_eq tag c h⟩
  · rw [hcase, if_pos rfl]
    obtain hst | hst := hst
    · rw [Case.returned_onBench hst]; simp [hst]
    · rw [Case.returned_onAudit hst]; simp [hst]
  · rw [hnotice]; simp
  · rw [State.tellsOfErrors] at ht
    rw [hnotice]; simp [ht]
  · rw [State.tellsOfErrors] at ht
    rw [hnotice]; simp [ht]
  · rw [hnotice]; simp [State.auditCapable]
  · rw [hnotice]; simp [h1, h2, h3]

/-! Submit Grade -/

section
variable {s t : State} {p : Port} {num : Byte} {tag : Tag} {c c' : Case} {observed : Attributes} {obs : List Observation}

theorem State.portHasSubmission_iff (s : State) (p : Port) : s.portHasSubmission p = true ↔ ∃ x ∈ s.submissions, x.grader = p := by
  simp [State.portHasSubmission]

theorem submitGrade_len_le (h : obs.length ≤ 16) : (Request.submitGrade tag observed obs).len ≤ 160 := by
  show 10 + 2 * obs.length ≤ 160
  omega

/-- A listening BENCH port's Submit Grade in LIVE that the case table refuses is answered at once. -/
theorem submitGrade_refused (h : s.listens p .bench) (hlive : s.mode = .live) (hl : obs.length ≤ 16) {a : Answer}
    (ht : takeSubmitGrade p tag observed obs (s.serving p num (.submitGrade tag observed obs)) =
      (s.serving p num (.submitGrade tag observed obs), some a)) :
    ∃ t, exec (.submitGrade p num tag observed obs) s = .next t ∧
      s.onlyAnswered t p num (.submitGrade tag observed obs) a.status a.data :=
  went_arrive_onlyAnswered (r := .submitGrade tag observed obs) h (submitGrade_len_le hl) rfl rfl (decide_eq_true hl) (.inr hlive) ht

/-- A Submit Grade that is taken has no answer yet (R68). -/
theorem submitGrade_taken (h : s.listens p .bench) (hlive : s.mode = .live) (hl : obs.length ≤ 16)
    (ht : takeSubmitGrade p tag observed obs (s.serving p num (.submitGrade tag observed obs)) = (t, none)) :
    exec (.submitGrade p num tag observed obs) s = .next t :=
  went_arrive_unanswered (r := .submitGrade tag observed obs) h (submitGrade_len_le hl) rfl rfl (decide_eq_true hl) (.inr hlive) ht

theorem takeSubmitGrade_unknownTag (hc : s.case? tag = none) :
    takeSubmitGrade p tag observed obs s = (s, some (.bare .unknownTag)) := by
  simp only [takeSubmitGrade, hc]

theorem takeSubmitGrade_busy (hc : s.case? tag = some c) (hh : c.holder.map (·.port) = some p) (hb : s.portHasSubmission p = true) :
    takeSubmitGrade p tag observed obs s = (s, some (.bare .busy)) := by
  simp only [takeSubmitGrade, hc, Case.isHeldBy, decide_eq_true hh, if_true, hb]

theorem takeSubmitGrade_joins (hc : s.case? tag = some c) (hh : c.holder.map (·.port) = some p) (hb : ¬ s.portHasSubmission p = true) :
    takeSubmitGrade p tag observed obs s = (s.enqueue p tag c observed obs, none) := by
  simp only [takeSubmitGrade, hc, Case.isHeldBy, decide_eq_true hh, if_true, if_neg hb]

theorem takeSubmitGrade_lapsedHold (hc : s.case? tag = some c) (hh : ¬ c.holder.map (·.port) = some p) (hb : c.lastLapsedHolder = some p) :
    takeSubmitGrade p tag observed obs s = (s, some (c.holderReply .lapsedHold)) := by
  simp only [takeSubmitGrade, hc, Case.isHeldBy, decide_eq_false hh, Bool.false_eq_true, if_false, hb, if_true]

theorem takeSubmitGrade_notHolder (hc : s.case? tag = some c) (hh : ¬ c.holder.map (·.port) = some p) (hb : ¬ c.lastLapsedHolder = some p) :
    takeSubmitGrade p tag observed obs s = (s, some (c.holderReply .notHolder)) := by
  simp only [takeSubmitGrade, hc, Case.isHeldBy, decide_eq_false hh, Bool.false_eq_true, if_false, hb]

/-- The start of a computation changes the queue and the engine alone, and a COMPUTING engine not even these (R46). -/
theorem State.startComputation_of_computing (h : s.engine ≠ none) : s.startComputation = s := by
  obtain ⟨k, hk⟩ := Option.ne_none_iff_exists'.mp h
  unfold State.startComputation
  simp [hk]

theorem State.startComputation_takes {x : Submission} {rest : List Submission} (he : s.engine = none) (hq : s.gradingQueue = x :: rest)
    (hc : s.case? x.tag = some c) :
    s.startComputation = (s.withGradingQueue rest).withEngine
      (some { submission := x, category := c.category, declared := c.declared, record := s.category c.category,
              weights := s.weightRow c.category }) := by
  unfold State.startComputation
  simp [he, hq, hc]

/-- The submission that a port's Submit Grade makes (R44). -/
abbrev submissionOf (p : Port) (tag : Tag) (c : Case) (observed : Attributes) (obs : List Observation) : Submission :=
  { tag := tag, grader := p, kind := gradeKindOf c.state, observed := observed, observations := obs }

theorem State.enqueue_of_computing (h : s.engine ≠ none) :
    (s.enqueue p tag c observed obs).engine = s.engine ∧
      (s.enqueue p tag c observed obs).gradingQueue = s.gradingQueue ++ [submissionOf p tag c observed obs] := by
  have hstart := State.startComputation_of_computing (s := (s.setCase tag { c with holder := none, state := .grading }).withGradingQueue
    (s.gradingQueue ++ [submissionOf p tag c observed obs])) h
  rw [State.enqueue, hstart]
  exact ⟨rfl, rfl⟩

theorem State.enqueue_of_idle (h : s.engine = none) (hq : s.gradingQueue = []) :
    (s.enqueue p tag c observed obs).gradingQueue = [] ∧
      (s.enqueue p tag c observed obs).engine =
        some { submission := submissionOf p tag c observed obs, category := c.category, declared := c.declared,
               record := s.category c.category, weights := s.weightRow c.category } := by
  have hstart := State.startComputation_takes (s := (s.setCase tag { c with holder := none, state := .grading }).withGradingQueue
    (s.gradingQueue ++ [submissionOf p tag c observed obs])) h (congrArg (· ++ _) hq)
    ((State.case?_setCase s tag tag { c with holder := none, state := .grading }).trans (if_pos rfl))
  rw [State.enqueue, hstart]
  exact ⟨rfl, rfl⟩

/-- What the joining of a submission leaves, but for the queue and the engine (R38). -/
theorem State.enqueue_eq (s : State) (p : Port) (tag : Tag) (c : Case) (observed : Attributes) (obs : List Observation) :
    s.enqueue p tag c observed obs = (((s.setCase tag { c with holder := none, state := .grading }).withGradingQueue
      (s.enqueue p tag c observed obs).gradingQueue).withEngine (s.enqueue p tag c observed obs).engine) := by
  conv_lhs => rw [State.enqueue, State.startComputation_eq]
  rfl

end

/-- Settles O17, check by check; a submission that joins goes on to an IDLE engine or waits. -/
theorem submitGradeJoinsTheQueue : Obligations.SubmitGradeJoinsTheQueue := by
  intro s p num tag observed obs hs hlive hl r
  cases hc : s.case? tag with
  | none => exact submitGrade_refused hs hlive hl (takeSubmitGrade_unknownTag hc)
  | some c =>
    dsimp only
    by_cases hh : c.holder.map (·.port) = some p
    · simp only [if_pos hh]
      by_cases hb : ∃ x ∈ s.submissions, x.grader = p
      · simp only [if_pos hb]
        exact submitGrade_refused hs hlive hl (takeSubmitGrade_busy hc hh ((State.portHasSubmission_iff ..).mpr hb))
      · simp only [if_neg hb]
        have htake := takeSubmitGrade_joins (s := s.serving p num r) (observed := observed) (obs := obs) hc hh
          fun hp => hb ((State.portHasSubmission_iff s p).mp hp)
        have heq := (s.serving p num r).enqueue_eq p tag c observed obs
        refine ⟨_, submitGrade_taken hs hlive hl htake, ⟨fun q hq => ?_, ?_⟩, ?_, ?_, fun v hv => ?_, fun he => ?_, fun he hq => ?_, ?_⟩
        · rw [heq]; exact State.port_serving_other hq
        · rw [heq]; exact State.port_serving_self.trans (by rw [State.port_withEngine, State.port_withGradingQueue, State.port_setCase, State.port_serving_self])
        · rw [heq]; exact congrArg PortState.service State.port_serving_self
        · rw [heq]; exact (State.case?_setCase (s.serving p num r) tag tag _).trans (if_pos rfl)
        · rw [heq]; exact (State.case?_setCase (s.serving p num r) tag v _).trans (if_neg hv)
        · exact State.enqueue_of_computing (s := s.serving p num r) he
        · exact State.enqueue_of_idle (s := s.serving p num r) he hq
        · rw [heq]; rfl
    · simp only [if_neg hh]
      by_cases hb : c.lastLapsedHolder = some p
      · simp only [if_pos hb]
        exact submitGrade_refused hs hlive hl (takeSubmitGrade_lapsedHold hc hh hb)
      · simp only [if_neg hb]
        exact submitGrade_refused hs hlive hl (takeSubmitGrade_notHolder hc hh hb)

/-! A tag out of its tote -/

/-- What a removal leaves of the notices (R125). -/
theorem State.notified_removeFromManifest {s : State} {u : ToteNo} {tag : Tag} (h : (s.tote u).state = .draining)
    (h' : ((s.tote u).without tag).state = .opened) :
    s.notified (s.leaveTote (.inTote u) tag) (fun _ x => decide (x.role = .induct ∨ x.role = .stock)) .swapDone (.tote u) := by
  simp only [State.leaveTote, State.removeFromManifest, if_pos (And.intro h h')]
  exact State.notified_raise (fun _ => rfl) fun q => toInductAndStock_eq q _

theorem State.sameNotices_removeFromManifest {s : State} {u : ToteNo} {tag : Tag}
    (h : ¬ ((s.tote u).state = .draining ∧ ((s.tote u).without tag).state = .opened)) :
    s.sameNotices (s.leaveTote (.inTote u) tag) := by
  simp only [State.leaveTote, State.removeFromManifest, if_neg h]
  exact fun _ _ => rfl

theorem State.tote_leaveTote (s : State) (u v : ToteNo) (tag : Tag) :
    (s.leaveTote (.inTote u) tag).tote v = if v = u then (s.tote u).without tag else s.tote v := by
  rw [← State.tote_setTote]
  simp only [State.leaveTote, State.removeFromManifest]
  split <;> rfl

/-- Settles O14, by the tote's state. -/
theorem manifestRemovalSettlesTheTote : Obligations.ManifestRemovalSettlesTheTote := by
  refine ⟨fun s tag => ⟨rfl, rfl⟩, fun s u tag => ?_⟩
  intro k t shorter
  have hkeep (st : ToteState) (hst : k.state = st) : { shorter with state := st } = shorter := by subst hst; rfl
  have hplain (hw : k.without tag = shorter) (h : ¬ (k.state = .draining ∧ shorter.state = .opened)) :
      t.tote u = shorter ∧ s.sameNotices t :=
    ⟨(s.tote_leaveTote u u tag).trans ((if_pos rfl).trans hw), State.sameNotices_removeFromManifest (by rw [show (s.tote u).without tag = _ from hw]; exact h)⟩
  refine ⟨State.leaveTote_eq .., fun v hv => (s.tote_leaveTote u v tag).trans (if_neg hv), fun hst => ?_, fun hst => ?_, fun hst hr => ?_,
    fun hst hr hm => ?_, fun hst hr hm => ?_⟩
  · exact hplain (by unfold Tote.without; rw [hst]; exact hkeep _ hst) (by simp [hst])
  · have hw : k.without tag = { shorter with state := .opened } := by unfold Tote.without; rw [hst]
    exact ⟨(s.tote_leaveTote u u tag).trans ((if_pos rfl).trans hw),
      State.sameNotices_removeFromManifest fun h => by rw [show (s.tote u).state = .full from hst] at h; cases h.1⟩
  · refine hplain ?_ fun h => by rw [show shorter.state = .draining from hst] at h; cases h.2
    unfold Tote.without
    rw [hst]
    exact (if_neg fun h => absurd h.1 (Nat.pos_iff_ne_zero.mp hr)).trans (hkeep _ hst)
  · refine hplain ?_ fun h => by rw [show shorter.state = .draining from hst] at h; cases h.2
    unfold Tote.without
    rw [hst]
    exact (if_neg fun h => hm h.2).trans (hkeep _ hst)
  · have hw : k.without tag = { shorter with state := .opened } := by
      unfold Tote.without
      rw [hst]
      exact if_pos ⟨hr, hm⟩
    exact ⟨(s.tote_leaveTote u u tag).trans ((if_pos rfl).trans hw),
      State.notified_removeFromManifest hst (by rw [show (s.tote u).without tag = _ from hw])⟩

end Sys2Proof.Machine
end

section
/-! SUPPORT. The requests that write tables, settings and the calendar, and the wear sum of a list. -/

namespace Sys2Proof.Machine

/-! The wear sum -/

theorem wearSum_le_deductionSum (k : ScaleStep) (row : Store WeightEntry) (obs : List Observation) :
    wearSum k row obs ≤ deductionSum k row obs := by
  induction obs with
  | nil => exact Nat.le_refl 0
  | cons o obs ih =>
    rw [wearSum_cons, deductionSum_cons]
    refine Nat.add_le_add ?_ ih
    split
    · exact Nat.le_refl 0
    · split
      · exact Nat.le_refl _
      · exact Nat.zero_le _

/-- Settles O21, from the closed form of the sums: the wear sum adds some of the products that the deduction adds. -/
theorem wearSumIsCappedAndBelowDeduction : Obligations.WearSumIsCappedAndBelowDeduction := by
  intro k row obs
  rw [tallyOf_eq]
  exact ⟨rfl, min_le_min_left _ (wearSum_le_deductionSum k row obs), rfl⟩

section
variable {s t : State} {p : Port} {num : Byte} {r : Request}

/-! Write Weights -/

theorem State.categoryInUse_iff (s : State) (k : Nat) : s.categoryInUse k = true ↔ s.grades k := by
  simp only [State.categoryInUse, State.grades, List.any_eq_true]
  refine exists_congr fun x => and_congr_right fun _ => ?_
  cases s.case? x.tag <;> simp

theorem weightsBad_iff (category first : Byte) (es : List WeightWrite) : weightsBad category first es = true ↔
    15 < category.toNat ∨ 64 < first.toNat + es.length ∨ ∃ e ∈ es, 4095 < e.weight.toNat := by
  simp [weightsBad, or_assoc]

theorem weightIn_put (row : Store WeightEntry) (k j : Nat) (e : WeightEntry) :
    weightIn (Store.put .zero row k e) j = if j = k then e else weightIn row j := Store.get_put ..

/-- The entry that a run leaves at a class (R77). -/
theorem weightIn_writeRun (es : List WeightWrite) (first k : Nat) (row : Store WeightEntry) :
    weightIn (writeRun first es row) k =
      if first ≤ k then
        match es[k - first]? with
        | some e => { weight := e.weight.toNat, wear := e.wear }
        | none => weightIn row k
      else weightIn row k := by
  induction es generalizing first row with
  | nil => simp [writeRun]
  | cons e rest ih =>
    rw [writeRun, ih, weightIn_put]
    obtain hlt | rfl | hgt := Nat.lt_trichotomy k first
    · rw [if_neg (by omega), if_neg (by omega), if_neg (by omega)]
    · rw [if_neg (by omega), if_pos rfl, if_pos (Nat.le_refl k), Nat.sub_self]
      rfl
    · rw [if_pos (Nat.succ_le_of_lt hgt), if_neg (Nat.ne_of_gt hgt), if_pos (Nat.le_of_lt hgt),
        show k - first = (k - (first + 1)) + 1 by omega, List.getElem?_cons_succ]

theorem exec_writeWeights (h : s.listens p .stock) (num category first : Byte) {es : List WeightWrite} (h1 : 1 ≤ es.length)
    (h2 : es.length ≤ 16) : exec (.writeWeights p num category first es) s =
      .next (s.taken p num (.writeWeights category first es) (takeWriteWeights category first es)) :=
  went_arrive_taken h (by show 4 + 3 * es.length ≤ 160; omega) rfl rfl
    (by show (decide (1 ≤ es.length) && decide (es.length ≤ 16)) = true; simp [h1, h2]) (.inl rfl) fun _ => rfl

theorem takeWriteWeights_inUse {category first : Byte} {es : List WeightWrite} (hb : ¬ weightsBad category first es = true)
    (hu : s.categoryInUse category.toNat = true) : takeWriteWeights category first es s = (s, .bare .tableInUse) := by
  simp only [takeWriteWeights, if_neg hb, hu, if_true]

theorem toCategory_val {b : Byte} (h : b.toNat ≤ 15) : (toCategory b).val = b.toNat := by
  show b.toNat % 16 = b.toNat
  omega

end

/-- Settles O28, check by check; the run is read back by `weightIn_writeRun`. -/
theorem writeWeightsWritesItsRun : Obligations.WriteWeightsWritesItsRun := by
  intro s p num category first es hs h1 h2 r
  refine ⟨_, exec_writeWeights hs num category first h1 h2, fun hbad => ?_, fun hc hf hes huse => ?_, fun hc hf hes huse => ?_⟩
  · have hbad := (weightsBad_iff category first es).mpr hbad
    exact State.onlyAnswered_taken (a := .bare .badValue) (by simp only [takeWriteWeights, hbad, if_true])
  all_goals
    have hgood : ¬ weightsBad category first es = true := by
      rw [weightsBad_iff]
      rintro (h | h | ⟨e, he, h⟩)
      · omega
      · omega
      · exact absurd (hes e he) (by omega)
  · have huse := ((s.serving p num r).categoryInUse_iff category.toNat).mpr huse
    exact State.onlyAnswered_taken (takeWriteWeights_inUse hgood huse)
  · have huse : ¬ (s.serving p num r).categoryInUse category.toNat = true := fun h =>
      huse (((s.serving p num r).categoryInUse_iff category.toNat).mp h)
    have htake : takeWriteWeights category first es (s.serving p num r) = ((s.serving p num r).withWeights (Store.put .empty
        (s.serving p num r).weights category.toNat (writeRun first.toNat es ((s.serving p num r).weightRow (toCategory category)))),
          .bare .ok) := by simp only [takeWriteWeights, if_neg hgood, if_neg huse]
    refine ⟨State.answered_taken htake rfl, by rw [State.taken_of_eq htake]; rfl, fun c k => ?_⟩
    have hrow : (s.taken p num r (takeWriteWeights category first es)).weightRow c =
        if c.val = category.toNat then writeRun first.toNat es (s.weightRow (toCategory category)) else s.weightRow c := by
      rw [State.taken_of_eq htake]
      exact Store.get_put ..
    rw [hrow]
    by_cases hcat : c.val = category.toNat
    · have hsame : toCategory category = c := Fin.ext ((toCategory_val hc).trans hcat.symm)
      rw [if_pos hcat, weightIn_writeRun, hsame]
      by_cases hk : first.toNat ≤ k
      · exact (if_pos hk).trans (if_pos (And.intro hcat hk)).symm
      · rw [if_neg hk, if_neg fun h => hk h.2]
    · rw [if_neg hcat, if_neg fun h => hcat h.1]

/-! Write Category -/

/-- The scale step that a character reads as (R78). -/
theorem readStep_eq_none_iff (b : Byte) : readStep b = none ↔ ¬ (-2 ≤ b.toInt ∧ b.toInt ≤ 1) := by
  unfold readStep
  split
  case h_5 hm2 hm1 h0 h1 =>
    simp only [imp_false] at hm2 hm1 h0 h1
    simp only [true_iff]
    omega
  all_goals
    simp only [reduceCtorEq, false_iff, not_not]
    omega

theorem readStep_value {b : Byte} {k : ScaleStep} (h : readStep b = some k) :
    (b.toInt = -2 → k = .minusTwo) ∧ (b.toInt = -1 → k = .minusOne) ∧ (b.toInt = 0 → k = .zero) ∧ (b.toInt = 1 → k = .plusOne) := by
  unfold readStep at h
  split at h <;> cases h <;> refine ⟨fun h => ?_, fun h => ?_, fun h => ?_, fun h => ?_⟩ <;> first | rfl | omega

theorem thresholdsBad_iff (w : CategoryWrite) : thresholdsBad w = true ↔
    1000 < w.tA.toNat ∨ w.tA.toNat < w.tB.toNat ∨ w.tB.toNat < w.tC.toNat := by
  simp only [thresholdsBad, Bool.or_eq_true, decide_eq_true_eq]
  omega

section
variable {s t : State} {p : Port} {num : Byte} {r : Request}

theorem exec_writeCategory (h : s.listens p .stock) (num category : Byte) (w : CategoryWrite) :
    exec (.writeCategory p num category w) s = .next (s.taken p num (.writeCategory category w) (takeWriteCategory category w)) :=
  went_arrive_taken h (by decide : 18 ≤ 160) rfl rfl rfl (.inl rfl) fun _ => rfl

theorem takeWriteCategory_badValue {category : Byte} {w : CategoryWrite}
    (h : 15 < category.toNat ∨ readStep w.step = none ∨ thresholdsBad w = true) :
    takeWriteCategory category w s = (s, .bare .badValue) := by
  unfold takeWriteCategory
  by_cases hc : 15 < category.toNat
  · rw [if_pos hc]
  · rw [if_neg hc]
    cases hk : readStep w.step with
    | none => rfl
    | some k =>
      have ht : thresholdsBad w = true := by simpa [hc, hk] using h
      simp only [ht, if_true]

theorem takeWriteCategory_inUse {category : Byte} {w : CategoryWrite} {k : ScaleStep} (hc : ¬ 15 < category.toNat)
    (hk : readStep w.step = some k) (ht : ¬ thresholdsBad w = true) (hu : s.categoryInUse category.toNat = true) :
    takeWriteCategory category w s = (s, .bare .tableInUse) := by
  simp only [takeWriteCategory, if_neg hc, hk, if_neg ht, hu, if_true]

theorem takeWriteCategory_stores {category : Byte} {w : CategoryWrite} {k : ScaleStep} (hc : ¬ 15 < category.toNat)
    (hk : readStep w.step = some k) (ht : ¬ thresholdsBad w = true) (hu : ¬ s.categoryInUse category.toNat = true) :
    takeWriteCategory category w s =
      (s.withCategories (Store.put .neutral s.categories category.toNat (storedRecord k w)),
        { status := if 4096 < w.rate.toNat ∨ 1000 < w.tolerance.toNat then .clamped else .ok,
          data := .categoryRecord (storedRecord k w) }) := by
  simp only [takeWriteCategory, if_neg hc, hk, if_neg ht, if_neg hu]

end

/-- Settles O29, check by check. -/
theorem writeCategoryStoresTheRecord : Obligations.WriteCategoryStoresTheRecord := by
  intro s p num category w hs r bad
  have hbad : bad ↔ 15 < category.toNat ∨ readStep w.step = none ∨ thresholdsBad w = true := by
    rw [readStep_eq_none_iff, thresholdsBad_iff]
  refine ⟨_, exec_writeCategory hs num category w, fun h => State.onlyAnswered_taken (takeWriteCategory_badValue (hbad.mp h)),
    fun h hu => ?_, fun h hu => ?_⟩
  all_goals
    rw [hbad, not_or, not_or] at h
    obtain ⟨hc, hk, ht⟩ := h
    obtain ⟨k, hk⟩ := Option.ne_none_iff_exists'.mp hk
  · exact State.onlyAnswered_taken (takeWriteCategory_inUse hc hk ht (((s.serving p num r).categoryInUse_iff category.toNat).mpr hu))
  · have htake := takeWriteCategory_stores hc hk ht fun hin => hu (((s.serving p num r).categoryInUse_iff category.toNat).mp hin)
    obtain ⟨h1, h2, h3, h4⟩ := readStep_value hk
    refine ⟨storedRecord k w, h1, h2, h3, h4, rfl, rfl, rfl, rfl, rfl, rfl, rfl, rfl, State.answered_taken htake rfl, fun c => ?_, ?_⟩
    · rw [State.taken_of_eq htake]
      exact Store.get_put ..
    · rw [State.taken_of_eq htake]; rfl

/-! Write Tote Map -/

theorem readRouteClass_of_le {b : Byte} (h : b.toNat ≤ 5) : ∃ cls, readRouteClass b = some cls ∧ cls.index = b.toNat := by
  obtain h | h | h | h | h | h : b.toNat = 0 ∨ b.toNat = 1 ∨ b.toNat = 2 ∨ b.toNat = 3 ∨ b.toNat = 4 ∨ b.toNat = 5 := by omega
  · exact ⟨.restock, by simp [readRouteClass, h], h.symm⟩
  · exact ⟨.outlet, by simp [readRouteClass, h], h.symm⟩
  · exact ⟨.repair, by simp [readRouteClass, h], h.symm⟩
  · exact ⟨.salvage, by simp [readRouteClass, h], h.symm⟩
  · exact ⟨.review, by simp [readRouteClass, h], h.symm⟩
  · exact ⟨.audit, by simp [readRouteClass, h], h.symm⟩

theorem readRouteClass_of_gt {b : Byte} (h : 5 < b.toNat) : readRouteClass b = none := by
  unfold readRouteClass
  split
  case h_7 => rfl
  all_goals omega

theorem mapEntryBad_iff (e : MapWrite) : mapEntryBad e = true ↔ 5 < e.cls.toNat ∨ 15 < e.category.toNat := by
  rw [mapEntryBad, Bool.or_eq_true, decide_eq_true_eq]
  refine or_congr ?_ Iff.rfl
  by_cases h : e.cls.toNat ≤ 5
  · obtain ⟨cls, hc, -⟩ := readRouteClass_of_le h
    simp [hc, h]
  · simp [readRouteClass_of_gt (Nat.lt_of_not_le h), Nat.lt_of_not_le h]

theorem RouteClass.index_inj {a b : RouteClass} (h : a.index = b.index) : a = b := by
  cases a <;> cases b <;> first | rfl | exact absurd h (by decide)

theorem mapKey_inj {a b : RouteClass} {c d : Fin 16} : mapKey a c = mapKey b d ↔ a.index = b.index ∧ c = d := by
  unfold mapKey
  rw [Fin.ext_iff]
  omega

/-- A list entry is for a map entry. -/
def mapWriteIsFor (e : MapWrite) (cls : RouteClass) (c : Fin 16) : Bool := decide (e.cls.toNat = cls.index ∧ e.category.toNat = c.val)

theorem find?_writeMapEntry {e : MapWrite} (h1 : e.cls.toNat ≤ 5) (h2 : e.category.toNat ≤ 15) (m : Store ToteNo) (cls : RouteClass)
    (c : Fin 16) : (writeMapEntry m e).find? (mapKey cls c) =
      if mapWriteIsFor e cls c then (if e.valid then some e.tote else none) else m.find? (mapKey cls c) := by
  obtain ⟨x, hx, hi⟩ := readRouteClass_of_le h1
  have hkey : mapKey cls c = mapKey x (toCategory e.category) ↔ mapWriteIsFor e cls c = true := by
    rw [mapKey_inj, mapWriteIsFor, decide_eq_true_eq, hi, Fin.ext_iff, toCategory_val h2]
    exact and_congr eq_comm eq_comm
  simp only [writeMapEntry, hx]
  split <;> simp only [Store.find?_insert, Store.find?_erase, hkey]

/-- The last entry of a list for a map entry stands (R101). -/
theorem find?_foldl_writeMapEntry (es : List MapWrite) (h : ∀ e ∈ es, e.cls.toNat ≤ 5 ∧ e.category.toNat ≤ 15) (m : Store ToteNo)
    (cls : RouteClass) (c : Fin 16) : (es.foldl writeMapEntry m).find? (mapKey cls c) =
      match es.reverse.find? fun e => mapWriteIsFor e cls c with
      | some e => if e.valid then some e.tote else none
      | none => m.find? (mapKey cls c) := by
  induction es using List.reverseRecOn with
  | nil => rfl
  | append_singleton es e ih =>
    obtain ⟨h1, h2⟩ := h e (by simp)
    rw [List.foldl_append, List.foldl_cons, List.foldl_nil, find?_writeMapEntry h1 h2, List.reverse_append, List.reverse_singleton,
      List.singleton_append, List.find?_cons]
    cases mapWriteIsFor e cls c with
    | true => rfl
    | false => exact ih fun x hx => h x (List.mem_append_left _ hx)

section
variable {s : State} {p : Port}

theorem exec_writeToteMap (h : s.listens p .stock) (num : Byte) {es : List MapWrite} (h1 : 1 ≤ es.length) (h2 : es.length ≤ 16) :
    exec (.writeToteMap p num es) s = .next (s.taken p num (.writeToteMap es) (takeWriteToteMap es)) :=
  went_arrive_taken h (by show 2 + 4 * es.length ≤ 160; omega) rfl rfl
    (by show (decide (1 ≤ es.length) && decide (es.length ≤ 16)) = true; simp [h1, h2]) (.inl rfl) fun _ => rfl

end

/-- Settles O31: a bad entry refuses the whole list, and the last good one for a map entry stands. -/
theorem writeToteMapLastEntryStands : Obligations.WriteToteMapLastEntryStands := by
  intro s p num es hs h1 h2
  refine ⟨_, exec_writeToteMap hs num h1 h2, fun ⟨e, he, hbad⟩ => ?_, fun hgood => ?_⟩
  · have hany : es.any mapEntryBad = true := List.any_eq_true.mpr ⟨e, he, (mapEntryBad_iff e).mpr hbad⟩
    exact State.onlyAnswered_taken (a := .bare .badValue) (by simp only [takeWriteToteMap, hany, if_true])
  · have hany : ¬ es.any mapEntryBad = true := fun h => by
      obtain ⟨e, he, hbad⟩ := List.any_eq_true.mp h
      rw [mapEntryBad_iff] at hbad
      have := hgood e he
      omega
    have htake : takeWriteToteMap es (s.serving p num (.writeToteMap es)) =
        ((s.serving p num (.writeToteMap es)).withToteMap (es.foldl writeMapEntry s.toteMap), .bare .ok) := by
      simp only [takeWriteToteMap, if_neg hany]
      rfl
    refine ⟨State.answered_taken htake rfl, by rw [State.taken_of_eq htake]; rfl, fun cls c => ?_⟩
    rw [State.taken_of_eq htake]
    exact find?_foldl_writeMapEntry es hgood s.toteMap cls c

/-! Set Clock -/

theorem clockBad_iff (w : ClockWrite) : clockBad w = true ↔
    59 < w.second.toNat ∨ 59 < w.minute.toNat ∨ 23 < w.hour.toNat ∨ 6 < w.weekday.toNat := by
  simp [clockBad, or_assoc]

theorem exec_setClock {s : State} {p : Port} (h : s.listens p .stock) (num : Byte) (w : ClockWrite) :
    exec (.setClock p num w) s = .next (s.taken p num (.setClock w) (takeSetClock w)) :=
  went_arrive_taken h (by decide : 8 ≤ 160) rfl rfl rfl (.inl rfl) fun _ => rfl

/-- Settles O45, check by check. -/
theorem setClockReplacesTheTime : Obligations.SetClockReplacesTheTime := by
  intro s p num w hs
  refine ⟨_, exec_setClock hs num w, ?_⟩
  split
  next hbad =>
    have hbad := (clockBad_iff w).mpr hbad
    exact State.onlyAnswered_taken (a := .bare .badValue) (by simp only [takeSetClock, hbad, if_true])
  next hgood =>
    rw [← clockBad_iff] at hgood
    split
    next hsweep =>
      have hsome : (s.serving p num (.setClock w)).calendar.sweep.isSome = true := Option.isSome_iff_ne_none.mpr hsweep
      exact State.onlyAnswered_taken (a := .bare .busy) (by simp only [takeSetClock, if_neg hgood, hsome, if_true])
    next hsweep =>
      have hnone : s.calendar.sweep = none := not_not.mp hsweep
      have hsome : ¬ (s.serving p num (.setClock w)).calendar.sweep.isSome = true := fun h => hsweep (Option.isSome_iff_ne_none.mp h)
      have htake : takeSetClock w (s.serving p num (.setClock w)) = ((s.serving p num (.setClock w)).withCalendar
          { second := w.second.toNat, minute := w.minute.toNat, hour := w.hour.toNat, weekday := w.weekday.toNat,
            day := w.day.toNat, secondCount := s.calendar.secondCount, sweep := none },
          { status := .ok, data := .clockSet w.second.toNat w.minute.toNat w.hour.toNat w.weekday.toNat w.day.toNat
              s.calendar.secondCount }) := by
        simp only [takeSetClock, if_neg hgood, if_neg hsome]
        rw [← hnone]
        rfl
      exact ⟨State.answered_taken htake rfl, by rw [State.taken_of_eq htake]; rfl⟩

/-! Floor modes and settings -/

section
variable {s : State} {p : Port}

theorem exec_goLive (h : s.listens p .stock) (num : Byte) :
    exec (.goLive p num) s = .next (s.taken p num .goLive takeGoLive) :=
  went_arrive_taken h (by decide) rfl rfl rfl (.inl rfl) fun _ => rfl

theorem exec_goConfig (h : s.listens p .stock) (num : Byte) :
    exec (.goConfig p num) s = .next (s.taken p num .goConfig takeGoConfig) :=
  went_arrive_taken h (by decide) rfl rfl rfl (.inl rfl) fun _ => rfl

theorem exec_writeSettings (h : s.listens p .stock) (num : Byte) (w : SettingsWrite) :
    exec (.writeSettings p num w) s = .next (s.taken p num (.writeSettings w) (takeWriteSettings w)) :=
  went_arrive_taken h (by decide : 9 ≤ 160) rfl rfl rfl (.inl rfl) fun _ => rfl

theorem exec_clearFloor (h : s.listens p .stock) (num : Byte) :
    exec (.clearFloor p num) s = .next (s.taken p num .clearFloor takeClearFloor) :=
  went_arrive_taken h (by decide) rfl rfl rfl (.inl rfl) fun _ => rfl

theorem State.submissions_eq_nil_iff (s : State) : s.submissions = [] ↔ s.engine = none ∧ s.gradingQueue = [] := by
  simp [State.submissions]

theorem intoRange_eq {lo hi : Nat} (h : lo ≤ hi) (n : Nat) : intoRange lo hi n = if n < lo then lo else if hi < n then hi else n := by
  unfold intoRange
  split
  · omega
  · split <;> omega

theorem State.getLsbD_auditCapable_stored (s : State) (w : SettingsWrite) (q : Port) :
    (s.storedSettings w).auditCapable.getLsbD q.val = (w.auditCapable.getLsbD q.val && decide ((s.port q).role = .bench)) := by
  show (w.auditCapable &&& s.benchPorts).getLsbD q.val = _
  rw [BitVec.getLsbD_and, State.getLsbD_benchPorts]
  rfl

theorem Settings.cutDown_eq_false_iff (x : Settings) (w : SettingsWrite) : x.cutDown w = false ↔
    x.holdLimit = w.holdLimit.toNat ∧ x.dwellLimit = w.dwellLimit.toNat ∧ x.expectLimit = w.expectLimit.toNat ∧
      x.auditCapable = w.auditCapable := by
  simp [Settings.cutDown, and_assoc]

/-- Clear Floor, read tote by tote (R138). -/
theorem State.tote_mapValues_floorCleared (s : State) (u : ToteNo) :
    Store.get Tote.unused (s.totes.mapValues Tote.floorCleared) u.toNat = (s.tote u).floorCleared := by
  simp only [State.tote, Store.get, Store.find?_mapValues]
  cases s.totes.find? u.toNat <;> rfl

end

/-- Settles O54, request by request. -/
theorem floorModesSettingsAndClearing : Obligations.FloorModesSettingsAndClearing := by
  intro s p num hs
  refine ⟨⟨_, exec_goLive hs num, State.answered_taken (a := { status := .ok, data := .mode .live }) rfl rfl, rfl⟩, ⟨_, exec_goConfig hs num, fun he hq => ?_, fun h => ?_⟩,
    fun w => ⟨_, s.storedSettings w, exec_writeSettings hs num w, intoRange_eq (by omega) _, intoRange_eq (by omega) _, ?_, rfl,
      s.getLsbD_auditCapable_stored w, ?_⟩, ⟨_, exec_clearFloor hs num, ?_⟩⟩
  · have hnil : (s.serving p num .goConfig).submissions.isEmpty = true :=
      List.isEmpty_iff.mpr ((State.submissions_eq_nil_iff (s.serving p num .goConfig)).mpr ⟨he, hq⟩)
    have htake : takeGoConfig (s.serving p num .goConfig) =
        ((s.serving p num .goConfig).withMode .config, { status := .ok, data := .mode .config }) := by
      simp only [takeGoConfig, hnil, if_true]
    exact ⟨State.answered_taken htake rfl, by rw [State.taken_of_eq htake]; rfl⟩
  · have hnil : ¬ (s.serving p num .goConfig).submissions.isEmpty = true := fun hn => by
      obtain ⟨he, hq⟩ := (State.submissions_eq_nil_iff (s.serving p num .goConfig)).mp (List.isEmpty_iff.mp hn)
      exact h.elim (· he) (· hq)
    exact State.onlyAnswered_taken (a := .bare .busy) (by simp only [takeGoConfig, if_neg hnil])
  · show intoRange 1 255 w.expectLimit.toNat = _
    have hlt := w.expectLimit.isLt
    rw [intoRange_eq (by omega)]
    split
    · rw [if_pos (by omega)]
    · rw [if_neg (by omega), if_neg (by omega)]
  · have hbench : (s.serving p num (.writeSettings w)).benchPorts = s.benchPorts :=
      BitVec.eq_of_getLsbD_eq fun i hi => by
        rw [State.getLsbD_benchPorts (s := s.serving p num (.writeSettings w)) ⟨i, hi⟩, State.getLsbD_benchPorts (s := s) ⟨i, hi⟩,
          State.isBench, State.isBench, State.role_serving]
    have hstored : (s.serving p num (.writeSettings w)).storedSettings w = s.storedSettings w := by
      simp only [State.storedSettings, hbench]
    have htake : takeWriteSettings w (s.serving p num (.writeSettings w)) =
        ((s.serving p num (.writeSettings w)).withSettings (s.storedSettings w),
          { status := if (s.storedSettings w).cutDown w then .clamped else .ok, data := .settings (s.storedSettings w) }) := by
      simp only [takeWriteSettings, hstored]
    refine ⟨?_, by rw [State.taken_of_eq htake]; rfl⟩
    have hans := State.answered_taken htake rfl
    split
    next hsame =>
      simp only [(Settings.cutDown_eq_false_iff ..).mpr hsame] at hans
      exact hans
    next hcut =>
      rw [← Settings.cutDown_eq_false_iff, Bool.not_eq_false] at hcut
      simp only [hcut, if_true] at hans
      exact hans
  · split
    next hm =>
      have hm : (s.serving p num .clearFloor).mode = .live := hm
      exact State.onlyAnswered_taken (a := .bare .wrongMode) (by simp only [takeClearFloor, hm, if_true])
    next hm =>
      have hm : ¬ (s.serving p num .clearFloor).mode = .live := hm
      split
      next hsw =>
        have hsw : (s.serving p num .clearFloor).calendar.sweep.isSome = true := Option.isSome_iff_ne_none.mpr hsw
        exact State.onlyAnswered_taken (a := .bare .busy) (by simp only [takeClearFloor, if_neg hm, hsw, if_true])
      next hsw =>
        have hsw : ¬ (s.serving p num .clearFloor).calendar.sweep.isSome = true := fun h => hsw (Option.isSome_iff_ne_none.mp h)
        have htake : takeClearFloor (s.serving p num .clearFloor) =
            ((((s.serving p num .clearFloor).withCases .empty).withTotes (s.totes.mapValues Tote.floorCleared)).withOutbound [],
              { status := .ok, data := .cleared s.cases.size s.outbound.length }) := by
          simp only [takeClearFloor, if_neg hm, if_neg hsw]
          rfl
        have htote (u : ToteNo) : (s.taken p num .clearFloor takeClearFloor).tote u = (s.tote u).floorCleared := by
          rw [State.taken_of_eq htake]
          exact s.tote_mapValues_floorCleared u
        refine ⟨State.answered_taken htake rfl, fun u => ?_, ?_, ?_, fun u hu => (htote u).trans (if_pos hu),
          fun u hu => (htote u).trans (if_neg hu), ?_⟩ <;> rw [State.taken_of_eq htake] <;> rfl

end Sys2Proof.Machine
end

section
/-! SUPPORT. Write Tote, and the notice requests at their own port. -/

namespace Sys2Proof.Machine

section
variable {s : State} {p : Port} {num : Byte} {w : ToteWrite} {k : Tote}

/-! Write Tote -/

theorem readWriteState_eq_none {b : Byte} (h : 1 < b.toNat) : readWriteState b = none := by
  unfold readWriteState
  split
  · omega
  · omega
  · rfl

/-- The checks of Write Tote, in their order (R126). -/
theorem writeToteCheck_eq (w : ToteWrite) (k : Tote) : writeToteCheck w k =
    if 1 < w.state.toNat ∨ w.capacity.toNat < 1 ∨ 32 < w.capacity.toNat ∨ w.link = some w.tote then some .badValue
    else if w.state = 0 ∧ (0 < k.filled ∨ 0 < k.reserved ∨ k.state = .draining) then some .tableInUse
    else if w.state = 1 ∧ w.capacity.toNat < k.filled + k.reserved then some .badValue
    else none := by
  unfold writeToteCheck
  by_cases hst : 1 < w.state.toNat
  · rw [readWriteState_eq_none hst, if_pos (.inl hst)]
  · obtain h | h : w.state = 0 ∨ w.state = 1 := by bv_omega
    · simp [h, readWriteState]
    · simp [h, readWriteState]

theorem Tote.written_unused (h : w.state = 0) :
    k.written w = { k with state := .unused, capacity := w.capacity.toNat, link := none } := by
  simp [Tote.written, readWriteState, h]

/-- The state that a Write Tote of OPEN leaves, by the state before (R127). -/
def Tote.reopened (k : Tote) (capacity : Nat) : ToteState :=
  match k.state with
  | .unused => .opened
  | .draining => .draining
  | _ => if capacity = k.filled then .full else .opened

theorem Tote.written_opened (h : w.state = 1) :
    k.written w = { k with state := k.reopened w.capacity.toNat, capacity := w.capacity.toNat, link := w.link } := by
  simp only [Tote.written, readWriteState, h]
  rfl

theorem Tote.written_eq (h : w.state = 0 ∨ w.state = 1) : k.written w =
    { k with capacity := w.capacity.toNat, link := if w.state = 0 then none else w.link, state := (k.written w).state } := by
  obtain h | h := h
  · rw [Tote.written_unused h, if_pos h]
  · rw [Tote.written_opened h, if_neg (by simp [h])]

theorem exec_writeTote (h : s.listens p .stock) (num : Byte) (w : ToteWrite) :
    exec (.writeTote p num w) s = .next (s.taken p num (.writeTote w) (takeWriteTote w)) :=
  went_arrive_taken h (by decide : 7 ≤ 160) rfl rfl rfl (.inl rfl) fun _ => rfl

theorem takeWriteTote_refused {st : Status} (h : writeToteCheck w (s.tote w.tote) = some st) :
    takeWriteTote w s = (s, { status := st, data := .toteRecord (s.tote w.tote) }) := by
  simp only [takeWriteTote, h]

theorem takeWriteTote_fills (h : writeToteCheck w (s.tote w.tote) = none)
    (hf : (s.tote w.tote).state = .opened ∧ ((s.tote w.tote).written w).state = .full) :
    takeWriteTote w s = ((s.setTote w.tote ((s.tote w.tote).written w)).raise toInductAndStock .toteFull (.tote w.tote),
      { status := .ok, data := .toteRecord ((s.tote w.tote).written w) }) := by
  simp only [takeWriteTote, h, if_pos hf]

theorem takeWriteTote_writes (h : writeToteCheck w (s.tote w.tote) = none)
    (hf : ¬ ((s.tote w.tote).state = .opened ∧ ((s.tote w.tote).written w).state = .full)) :
    takeWriteTote w s = (s.setTote w.tote ((s.tote w.tote).written w),
      { status := .ok, data := .toteRecord ((s.tote w.tote).written w) }) := by
  simp only [takeWriteTote, h, if_neg hf]

theorem toInductAndStock_serving {r : Request} (q : Port) :
    toInductAndStock q ((s.serving p num r).port q) = decide ((s.port q).role = .induct ∨ (s.port q).role = .stock) := by
  rw [toInductAndStock_eq, State.role_serving]

/-- What a request leaves that has rewritten one tote and at most raised a notice. -/
theorem State.toteWritten_taken {r : Request} {take : State → State × Answer} {u : State} {a : Answer} {v : ToteNo} {k : Tote}
    (h : take (s.serving p num r) = (u, a)) (hk : LinesKept ((s.serving p num r).setTote v k) u)
    (hu : u = ((s.serving p num r).setTote v k).withPorts u.ports) :
    (s.taken p num r take).tote v = k ∧ s.sameTotesBut (s.taken p num r take) v ∧ s.sameLinesBut (s.taken p num r take) p ∧
      s.taken p num r take = (s.withTotes (s.taken p num r take).totes).withPorts (s.taken p num r take).ports := by
  have htote (v' : ToteNo) : u.tote v' = if v' = v then k else s.tote v' := by
    rw [hu]
    exact State.tote_setTote (s.serving p num r) v v' k
  refine ⟨?_, fun v' hv => ?_, State.sameLinesBut_taken h (.after hk), ?_⟩ <;> rw [State.taken_of_eq h]
  · exact (htote v).trans (if_pos rfl)
  · exact (htote v').trans (if_neg hv)
  · rw [hu]; rfl

end

/-- Settles O39, check by check; the written record is read back through `Tote.written_eq`. -/
theorem writeToteLaysOutTote : Obligations.WriteToteLaysOutTote := by
  intro s p num w hs k n
  refine ⟨_, exec_writeTote hs num w, ?_⟩
  have hcheck := writeToteCheck_eq w k
  split
  next h1 => exact State.onlyAnswered_taken (takeWriteTote_refused (hcheck.trans (if_pos h1)))
  next h1 =>
    rw [if_neg h1] at hcheck
    split
    next h2 => exact State.onlyAnswered_taken (takeWriteTote_refused (hcheck.trans (if_pos h2)))
    next h2 =>
      rw [if_neg h2] at hcheck
      split
      next h3 => exact State.onlyAnswered_taken (takeWriteTote_refused (hcheck.trans (if_pos h3)))
      next h3 =>
        replace hcheck := hcheck.trans (if_neg h3)
        have hst : w.state = 0 ∨ w.state = 1 := by
          have : ¬ 1 < w.state.toNat := fun h => h1 (.inl h)
          bv_omega
        have hunused : w.state = 0 → (k.written w).state = .unused := fun h => by rw [Tote.written_unused h]
        have hopened : w.state = 1 → (k.state = .unused → (k.written w).state = .opened) ∧
            (k.state = .draining → (k.written w).state = .draining) ∧
            (k.state = .opened ∨ k.state = .full → k.filled < n → (k.written w).state = .opened) ∧
            (k.state = .opened ∨ k.state = .full → n = k.filled → (k.written w).state = .full) := fun h => by
          rw [Tote.written_opened h]
          show (_ → k.reopened n = _) ∧ (_ → k.reopened n = _) ∧ (_ → _ → k.reopened n = _) ∧ (_ → _ → k.reopened n = _)
          unfold Tote.reopened
          refine ⟨fun hk => by rw [hk], fun hk => by rw [hk], fun hk hn => ?_, fun hk hn => ?_⟩
          · obtain hk | hk := hk <;> rw [hk] <;> exact if_neg (by omega)
          · obtain hk | hk := hk <;> rw [hk] <;> exact if_pos hn
        by_cases hf : k.state = .opened ∧ (k.written w).state = .full
        · have htake := takeWriteTote_fills (s := s.serving p num (.writeTote w)) hcheck hf
          obtain ⟨h4, h5, h6, h7⟩ := State.toteWritten_taken htake (.raise ..) rfl
          dsimp only
          rw [h4]
          exact ⟨State.replied_taken htake, h5, Tote.written_eq hst, hunused, hopened,
            fun _ => State.notified_taken htake toInductAndStock_serving, fun h => absurd hf h, h6, h7⟩
        · have htake := takeWriteTote_writes (s := s.serving p num (.writeTote w)) hcheck hf
          obtain ⟨h4, h5, h6, h7⟩ := State.toteWritten_taken htake (.refl _) rfl
          dsimp only
          rw [h4]
          exact ⟨State.replied_taken htake, h5, Tote.written_eq hst, hunused, hopened, fun h => absurd h hf,
            fun _ q e => (State.notice?_taken htake q e).trans (State.notice?_serving s p num _ q e), h6, h7⟩

/-! The notices of a port -/

theorem Cause.mem_all (c : Cause) : c ∈ Cause.all := by cases c <;> decide

theorem PortState.calls_iff (x : PortState) (c : Cause) :
    x.calls c = true ↔ (x.notice? c).isSome = true ∧ x.enabled.getLsbD (c.priority - 1) = true := Bool.and_eq_true_iff

theorem PortState.attnLevel_iff (x : PortState) : x.attnLevel = true ↔ ∃ c, x.calls c = true := by
  simp [PortState.attnLevel, Cause.mem_all]

theorem PortState.firstCall_eq_none_iff (x : PortState) : x.firstCall = none ↔ ∀ c, ¬ x.calls c = true := by
  simp [PortState.firstCall, Cause.mem_all]

theorem Cause.pairwise_all : Cause.all.Pairwise fun a b => a.priority < b.priority := by decide

/-- The first cause that calls is the one of highest priority (R149, R151). -/
theorem PortState.firstCall_eq_some {x : PortState} {c : Cause} (hc : x.calls c = true)
    (hmin : ∀ e, x.calls e = true → c.priority ≤ e.priority) : x.firstCall = some c := by
  cases hf : x.firstCall with
  | none => exact absurd hc ((PortState.firstCall_eq_none_iff x).mp hf c)
  | some b =>
    obtain ⟨hb, before, after, hall, hnone⟩ := List.find?_eq_some_iff_append.mp hf
    have hsorted := Cause.pairwise_all
    rw [hall] at hsorted
    have hmem : c ∈ before ∨ c = b ∨ c ∈ after := by simpa [hall] using Cause.mem_all c
    obtain hm | rfl | hm := hmem
    · exact absurd hc (by simpa using hnone c hm)
    · rfl
    · have hlt := List.rel_of_pairwise_cons (List.pairwise_append.mp hsorted).2.1 hm
      exact absurd (hmin b hb) (Nat.not_le.mpr hlt)

section
variable {s : State} {p : Port} {num : Byte} {role : Role}

theorem exec_queryNotice (h : s.listens p role) (num : Byte) :
    exec (.queryNotice p num) s = .next (s.taken p num .queryNotice (takeQueryNotice p)) :=
  went_arrive_taken h (by decide) rfl rfl rfl (.inl rfl) fun _ => rfl

theorem exec_setNoticeMask (h : s.listens p role) (num : Byte) (marks : BitVec 12) :
    exec (.setNoticeMask p num marks) s = .next (s.taken p num (.setNoticeMask marks) (takeSetNoticeMask p marks)) :=
  went_arrive_taken h (by decide : 4 ≤ 160) rfl rfl rfl (.inl rfl) fun _ => rfl

theorem takeQueryNotice_none (h : (s.port p).firstCall = none) :
    takeQueryNotice p s = (s, { status := .ok, data := .notice none .none (s.port p).pendingCauses }) := by
  simp only [takeQueryNotice, h]

theorem takeQueryNotice_some {c : Cause} {d : Detail} (h : (s.port p).firstCall = some c) (hd : (s.port p).notice? c = some d) :
    takeQueryNotice p s = (s.updPort p fun y => y.cleared c,
      { status := .ok, data := .notice (some c) d ((s.port p).cleared c).pendingCauses }) := by
  simp only [takeQueryNotice, h, hd, Option.getD_some]

/-- What a request leaves of the ports that has changed its own port alone. -/
theorem State.port_taken_updPort {r : Request} {take : State → State × Answer} {f : PortState → PortState} {a : Answer}
    (h : take (s.serving p num r) = ((s.serving p num r).updPort p f, a)) :
    (∀ q, q ≠ p → (s.taken p num r take).port q = s.port q) ∧
      (s.taken p num r take).port p = { f ((s.serving p num r).port p) with service := ((s.taken p num r take).port p).service } ∧
      s.taken p num r take = s.withPorts (s.taken p num r take).ports := by
  rw [State.taken_of_eq h]
  refine ⟨fun q hq => ?_, ?_, rfl⟩
  · rw [State.port_setReply_other _ hq, State.port_updPort, if_neg hq, State.port_serving_other hq]
  · rw [State.port_setReply_self, State.port_updPort, if_pos rfl]

end

/-- Settles O46, request by request, at the port that sent it. -/
theorem noticeRequestsServeTheirOwnPort : Obligations.NoticeRequestsServeTheirOwnPort := by
  intro s p role num hs calls own
  have hserving {r : Request} (e : Cause) : ((s.serving p num r).port p).calls e = true ↔ calls e := by
    rw [State.port_serving_self]
    exact PortState.calls_iff _ e
  refine ⟨⟨_, exec_queryNotice hs num, ?_, fun hnone => ?_, fun c d hc hmin hd => ?_⟩, fun marks => ⟨_, exec_setNoticeMask hs num marks, ?_⟩⟩
  · rw [State.taken, takeQueryNotice]
    split <;> rfl
  · have hf := (PortState.firstCall_eq_none_iff _).mpr fun e he => hnone e ((hserving (r := .queryNotice) e).mp he)
    have hans := State.answered_taken (takeQueryNotice_none hf) rfl
    rwa [State.port_serving_self] at hans
  · have hf := PortState.firstCall_eq_some ((hserving (r := .queryNotice) c).mpr hc) fun e he => hmin e ((hserving e).mp he)
    have htake := takeQueryNotice_some hf ((State.notice?_serving s p num _ p c).trans hd)
    obtain ⟨hother, hport, -⟩ := State.port_taken_updPort htake
    rw [State.port_serving_self] at hport
    have hnotice (e : Cause) : ((s.taken p num .queryNotice (takeQueryNotice p)).port p).notice? e =
        if e = c then none else (s.port p).notice? e := by
      rw [hport]
      exact PortState.notice?_cleared _ c e
    refine ⟨⟨hother, by rw [hport]; rfl, fun q => ?_, fun q hq => by rw [hother q hq]; exact ⟨rfl, rfl⟩⟩, ?_, hnotice, ?_⟩
    · by_cases hq : q = p
      · subst hq; rw [hport]; exact ⟨rfl, rfl, rfl, rfl, rfl⟩
      · rw [hother q hq]; exact ⟨rfl, rfl, rfl, rfl, rfl⟩
    · have hrep := State.replied_taken htake
      rw [State.port_serving_self] at hrep
      rw [hport]
      exact hrep
    · have hattn : ((s.taken p num .queryNotice (takeQueryNotice p)).port p).attn =
          ((s.taken p num .queryNotice (takeQueryNotice p)).port p).attnLevel := by
        rw [hport]; rfl
      rw [hattn, PortState.attnLevel_iff]
      refine exists_congr fun e => ?_
      rw [PortState.calls_iff, hnotice]
      by_cases he : e = c
      · simp [he]
      · rw [if_neg he, hport]
        exact (and_iff_right he).symm
  · have htake : takeSetNoticeMask p marks (s.serving p num (.setNoticeMask marks)) = (_, _) := rfl
    obtain ⟨hother, hport, hrest⟩ := State.port_taken_updPort htake
    have hrep := State.replied_taken htake
    rw [State.port_serving_self] at hport hrep
    refine ⟨hrest, hother, hrep, by rw [hport]; rfl, ?_⟩
    rw [hport]
    show PortState.attnLevel { s.port p with assembler := .idle, service := some { num := num, request := .setNoticeMask marks, reply := none }, enabled := marks } = true ↔ _
    rw [PortState.attnLevel_iff]
    exact exists_congr fun e => PortState.calls_iff _ e

end Sys2Proof.Machine
end

section
/-! SUPPORT. The completion of a grade: the record, the notices, the reply, and the start of the next computation. -/

namespace Sys2Proof.Machine

section
variable {s u : State} {k : Computation} {c : Case}

/-! The reply and the next start -/

theorem State.port_replyGrade (s : State) (p : Port) (res : GradeResult) :
    (∃ num o obs, (s.port p).service = some { num := num, request := .submitGrade res.tag o obs, reply := none } ∧
      (s.replyGrade p res).port p = { s.port p with
        service := some { num := num, request := .submitGrade res.tag o obs,
                          reply := some { kind := 26, num := num, status := .ok, data := .graded res } } }) ∨
    (∀ num o obs, (s.port p).service ≠ some { num := num, request := .submitGrade res.tag o obs, reply := none }) ∧
      (s.replyGrade p res).port p = s.port p := by
  simp only [State.replyGrade, State.port_updPort, if_true]
  split
  next num tag o obs hsv =>
    split
    next ht => subst ht; exact .inl ⟨num, o, obs, hsv, rfl⟩
    next ht => exact .inr ⟨fun num' o' obs' h => ht (by rw [hsv] at h; cases h; rfl), rfl⟩
  next hno => exact .inr ⟨fun num o obs h => hno _ _ _ _ h, rfl⟩

theorem State.port_replyGrade_other (s : State) {p q : Port} (res : GradeResult) (h : q ≠ p) :
    (s.replyGrade p res).port q = s.port q := by
  rw [State.replyGrade, State.port_updPort, if_neg h]

theorem State.port_nextComputation (s : State) (q : Port) : s.nextComputation.port q = s.port q :=
  State.port_of_ports (State.ports_startComputation _) q

theorem State.notice?_replyGrade (s : State) (p : Port) (res : GradeResult) (q : Port) (e : Cause) :
    ((s.replyGrade p res).port q).notice? e = (s.port q).notice? e := by
  by_cases hq : q = p
  · subst hq
    obtain ⟨_, _, _, -, h⟩ | ⟨-, h⟩ := s.port_replyGrade q res <;> rw [h]
    rfl
  · rw [State.port_replyGrade_other s res hq]

/-- What the end of a computation does at the ports, after at most notices have changed (R68). -/
theorem LinesKept.graded (h : LinesKept s u) (p : Port) (res : GradeResult) :
    (∀ num o obs, (s.port p).service = some { num := num, request := .submitGrade res.tag o obs, reply := none } →
      (u.replyGrade p res).nextComputation.replied p num (.submitGrade res.tag o obs) .ok (.graded res)) ∧
    ((∀ num o obs, (s.port p).service ≠ some { num := num, request := .submitGrade res.tag o obs, reply := none }) →
      ((u.replyGrade p res).nextComputation.port p).service = (s.port p).service) ∧
    (∀ q, ((u.replyGrade p res).nextComputation.port q).assembler = (s.port q).assembler) ∧
    s.sameLinesBut (u.replyGrade p res).nextComputation p := by
  obtain ⟨hlines, hservice, hasm⟩ := h.lines p
  have hport (q : Port) := State.port_nextComputation (u.replyGrade p res) q
  have hother {q : Port} (hq : q ≠ p) := (hport q).trans (u.port_replyGrade_other res hq)
  have hself := hport p
  refine ⟨fun num o obs hsv => ?_, fun hno => ?_, fun q => ?_, fun q => ?_, fun q hq => ?_⟩
  · obtain ⟨num', o', obs', hsv', hp⟩ | ⟨hno, -⟩ := u.port_replyGrade p res
    · rw [hservice, hsv] at hsv'
      cases hsv'
      rw [State.replied, hself, hp]
      rfl
    · exact absurd (hservice.trans hsv) (hno num o obs)
  · obtain ⟨num', o', obs', hsv', -⟩ | ⟨-, hp⟩ := u.port_replyGrade p res
    · exact absurd (hservice.symm.trans hsv') (hno num' o' obs')
    · rw [hself, hp, hservice]
  · by_cases hq : q = p
    · subst hq
      rw [hself]
      obtain ⟨_, _, _, -, hp⟩ | ⟨-, hp⟩ := u.port_replyGrade q res <;> rw [hp] <;> exact hasm
    · rw [hother hq, (h.lines q).2.2]
  · by_cases hq : q = p
    · subst hq
      rw [hself]
      obtain ⟨_, _, _, -, hp⟩ | ⟨-, hp⟩ := u.port_replyGrade q res <;> rw [hp] <;> exact hlines
    · rw [hother hq]; exact (h.lines q).1
  · rw [hother hq]; exact (h.lines q).2

/-- The next start, taken back, starts again in the same way (R69). -/
theorem State.nextComputation_eq (s : State) :
    s.nextComputation = (s.withGradingQueue s.nextComputation.gradingQueue).withEngine s.nextComputation.engine :=
  State.startComputation_eq (s.withEngine none)

theorem State.computationStart_nextComputation (s : State) {q : List Submission} (hq : s.gradingQueue = q) :
    exec .computationStart ((s.nextComputation.withEngine none).withGradingQueue q) = .next s.nextComputation := by
  have : (s.nextComputation.withEngine none).withGradingQueue q = s.withEngine none := by
    rw [s.nextComputation_eq, ← hq]; rfl
  rw [this]; rfl

/-! First grades -/

theorem lateFlagOf_eq (window today delivery : Nat) :
    lateFlagOf window today delivery = decide (0 < window ∧ delivery ≤ today ∧ window < today - delivery) := by
  simp [lateFlagOf, Bool.and_assoc]

theorem State.raiseQuarantine_of_q (s : State) (tag : Tag) : s.raiseQuarantine tag (some .q) = s.raise toStock .quarantined (.tag tag) :=
  if_pos rfl

theorem State.raiseQuarantine_of_ne (s : State) (tag : Tag) {bd : Band} (h : bd ≠ .q) : s.raiseQuarantine tag (some bd) = s :=
  if_neg fun he => h (Option.some.inj he)

theorem State.raiseQuarantine_eq (s : State) (tag : Tag) (b : Option Band) :
    s.raiseQuarantine tag b = s.withPorts (s.raiseQuarantine tag b).ports :=
by
  unfold State.raiseQuarantine
  split <;> rfl

/-- The reply of a first grade (R68). -/
def firstResult (tag : Tag) (g : GradeRecord) (selected : Bool) (c' : Case) : GradeResult :=
  { tag := tag, kind := .first, grade := g, selected := selected, outcome := none, finalBand := c'.finalBand, cls := c'.classCalledFor }

/-- The selection that the sampler makes of a first grade (R64). -/
def State.selectsNow (s : State) (k : Computation) (g : GradeRecord) : Bool :=
  consultsSampler g.band && selects (if consultsSampler g.band then samplerStep s.sampler else s.sampler) k.record.rate

theorem State.completeFirst_known (hc : s.case? k.submission.tag = some c) :
    let g := s.firstGradeNow k c
    let c' := c.firstGraded g (s.selectsNow k g)
    s.completeFirst k = (((s.recordFirst k c).raiseQuarantine k.submission.tag c'.finalBand).replyGrade k.submission.grader
      (firstResult k.submission.tag g (s.selectsNow k g) c')).nextComputation := by
  unfold State.completeFirst
  simp only [hc]
  rfl

theorem exec_firstGradeCompletion (he : s.engine = some k) (hk : k.submission.kind = .first) :
    exec .firstGradeCompletion s = .next (s.completeFirst k) := by
  show went _ = _
  simp only [he, if_pos hk]

theorem exec_firstGradeCompletion_idle (h : ∀ k, s.engine = some k → k.submission.kind = .audit) :
    exec .firstGradeCompletion s = .next s := by
  show went _ = _
  cases he : s.engine with
  | none => rfl
  | some k => simp only [if_neg (show ¬ k.submission.kind = .first by simp [h k he])]

theorem exec_auditGradeCompletion (he : s.engine = some k) (hk : k.submission.kind = .audit) :
    exec .auditGradeCompletion s = .next (s.completeAudit k) := by
  show went _ = _
  simp only [he, if_pos hk]

theorem exec_auditGradeCompletion_idle (h : ∀ k, s.engine = some k → k.submission.kind = .first) :
    exec .auditGradeCompletion s = .next s := by
  show went _ = _
  cases he : s.engine with
  | none => rfl
  | some k => simp only [if_neg (show ¬ k.submission.kind = .audit by simp [h k he])]

theorem consultsSampler_iff (bd : Band) : consultsSampler bd = true ↔ bd = .a ∨ bd = .b := by
  simp [consultsSampler]

/-- What the end of a computation leaves beside queue, engine and ports. -/
theorem State.graded_eq (u : State) (p : Port) (res : GradeResult) :
    (u.replyGrade p res).nextComputation = ((u.withGradingQueue (u.replyGrade p res).nextComputation.gradingQueue).withEngine
      (u.replyGrade p res).nextComputation.engine).withPorts (u.replyGrade p res).nextComputation.ports := by
  conv_lhs => rw [State.nextComputation_eq]
  rw [show (u.replyGrade p res).nextComputation.ports = (u.replyGrade p res).ports from State.ports_startComputation _]
  rfl

theorem State.case?_graded (u : State) (p : Port) (res : GradeResult) (v : Tag) :
    (u.replyGrade p res).nextComputation.case? v = u.case? v := by
  rw [State.graded_eq]; rfl

theorem State.notice?_graded (u : State) (p : Port) (res : GradeResult) (q : Port) (e : Cause) :
    ((u.replyGrade p res).nextComputation.port q).notice? e = (u.port q).notice? e := by
  rw [State.port_nextComputation, State.notice?_replyGrade]

theorem State.case?_raiseQuarantine (s : State) (tag : Tag) (b : Option Band) (v : Tag) :
    (s.raiseQuarantine tag b).case? v = s.case? v := by
  rw [State.raiseQuarantine_eq]; rfl

/-- The notices of a completion by its final band (R65, R66). -/
theorem State.notice?_raiseQuarantine (s : State) (tag : Tag) (bd : Band) (q : Port) (e : Cause) :
    ((s.raiseQuarantine tag (some bd)).port q).notice? e =
      if bd = .q ∧ e = .quarantined ∧ (s.port q).role = .stock then some (.tag tag) else (s.port q).notice? e := by
  by_cases h : bd = .q
  · subst h
    rw [State.raiseQuarantine_of_q, State.notice?_raise]
    simp [toStock_iff]
  · rw [State.raiseQuarantine_of_ne s tag h, if_neg fun hh => h hh.1]

end

/-- Settles O25: the record, then the notice, the reply and the next start, each by its lemma. -/
theorem firstGradeCompletionWritesResults : Obligations.FirstGradeCompletionWritesResults := by
  refine ⟨fun s k c he hk hc => ?_, fun s h => exec_firstGradeCompletion_idle h⟩
  intro tag late g
  have hg : s.firstGradeNow k c = g := congrArg k.grade (lateFlagOf_eq ..)
  have hdone : s.completeFirst k = (((s.recordFirst k c).raiseQuarantine tag (some g.band)).replyGrade k.submission.grader
      (firstResult tag g (s.selectsNow k g) (c.firstGraded g (s.selectsNow k g)))).nextComputation := by
    rw [← hg]; exact s.completeFirst_known hc
  have hrecord : s.recordFirst k c = (s.withSampler (if consultsSampler g.band then samplerStep s.sampler else s.sampler)).setCase tag
      (c.firstGraded g (s.selectsNow k g)) := by
    rw [State.recordFirst, hg]; rfl
  have hlines : LinesKept s ((s.recordFirst k c).raiseQuarantine tag (some g.band)) :=
    (LinesKept.raiseQuarantine ..).after (by rw [hrecord]; rfl)
  have hport (q : Port) : (s.recordFirst k c).port q = s.port q := by rw [hrecord]; rfl
  have hcase (v : Tag) : (s.completeFirst k).case? v = if v = tag then some (c.firstGraded g (s.selectsNow k g)) else s.case? v := by
    rw [hdone, State.case?_graded, State.case?_raiseQuarantine, hrecord]
    exact State.case?_setCase ..
  have hnotice (q : Port) (e : Cause) : ((s.completeFirst k).port q).notice? e =
      if g.band = .q ∧ e = .quarantined ∧ (s.port q).role = .stock then some (.tag tag) else (s.port q).notice? e := by
    rw [hdone, State.notice?_graded]
    exact (State.notice?_raiseQuarantine (s.recordFirst k c) tag g.band q e).trans (by rw [hport])
  have hsampler : (s.completeFirst k).sampler = if consultsSampler g.band then samplerStep s.sampler else s.sampler := by
    rw [hdone, State.graded_eq, State.raiseQuarantine_eq, hrecord]; rfl
  obtain ⟨h1, h2, h3, h4⟩ := hlines.graded k.submission.grader (firstResult tag g (s.selectsNow k g) (c.firstGraded g (s.selectsNow k g)))
  rw [← hdone] at h1 h2 h3 h4
  refine ⟨_, s.selectsNow k g, _, exec_firstGradeCompletion he hk, rfl, fun hb => ?_, fun ha hb => ?_, ?_, (hcase tag).trans (if_pos rfl),
    fun v hv => (hcase v).trans (if_neg hv), fun hq q e => ?_, fun hq q e => ?_, h1, h2, h3, h4, ?_, ?_⟩
  · have hb := (consultsSampler_iff g.band).mpr hb
    rw [hsampler, State.selectsNow, hb]
    exact ⟨rfl, decide_eq_true_iff⟩
  · have hb : consultsSampler g.band = false := Bool.eq_false_iff.mpr fun h => ((consultsSampler_iff g.band).mp h).elim ha hb
    rw [hsampler, State.selectsNow, hb]
    exact ⟨rfl, rfl⟩
  · rfl
  · rw [hnotice]; simp [hq]
  · rw [hnotice]; simp [hq]
  · rw [hdone]
    exact State.computationStart_nextComputation _ (by rw [State.replyGrade_gradingQueue, State.raiseQuarantine_eq, hrecord]; rfl)
  · rw [hdone, State.graded_eq, State.raiseQuarantine_eq, hrecord]; rfl

/-! Audit grades -/

section
variable {s : State} {k : Computation} {c : Case} {first : GradeRecord}

/-- The reply of an audit grade (R68). -/
def auditResult (tag : Tag) (g : GradeRecord) (o : AuditOutcome) (c' : Case) : GradeResult :=
  { tag := tag, kind := .audit, grade := g, selected := true, outcome := some o, finalBand := c'.finalBand, cls := c'.classCalledFor }

/-- AUDIT_DISPUTE to every STOCK port, on a dispute (R66). -/
def State.raiseDispute (s : State) (tag : Tag) (o : AuditOutcome) : State :=
  if o = .dispute then s.raise toStock .auditDispute (.tag tag) else s

theorem State.raiseDispute_eq (s : State) (tag : Tag) (o : AuditOutcome) : s.raiseDispute tag o = s.withPorts (s.raiseDispute tag o).ports := by
  unfold State.raiseDispute
  split <;> rfl

theorem LinesKept.raiseDispute (s : State) (tag : Tag) (o : AuditOutcome) : LinesKept s (s.raiseDispute tag o) := by
  unfold State.raiseDispute
  split
  · exact .raise ..
  · exact .refl s

theorem State.notice?_raiseDispute (s : State) (tag : Tag) (o : AuditOutcome) (q : Port) (e : Cause) :
    ((s.raiseDispute tag o).port q).notice? e =
      if e = .auditDispute ∧ o = .dispute ∧ (s.port q).role = .stock then some (.tag tag) else (s.port q).notice? e := by
  by_cases h : o = .dispute
  · rw [State.raiseDispute, if_pos h, State.notice?_raise]
    simp [toStock_iff, h]
  · rw [State.raiseDispute, if_neg h, if_neg fun hh => h hh.2.1]

theorem State.completeAudit_known (hc : s.case? k.submission.tag = some c) (hf : c.firstGrade = some first) :
    let g := k.grade false
    let o := outcomeOf first g k.record.tolerance
    let c' := c.auditGraded first g o
    s.completeAudit k = ((((s.recordAudit k c first).raiseDispute k.submission.tag o).raiseQuarantine k.submission.tag
      c'.finalBand).replyGrade k.submission.grader (auditResult k.submission.tag g o c')).nextComputation := by
  unfold State.completeAudit
  simp only [hc, hf]
  rfl

/-- The agreement rule without subtraction (R96). -/
theorem outcomeOf_eq_agree_iff (a b : GradeRecord) (tolerance : Nat) : outcomeOf a b tolerance = .agree ↔
    a.band = b.band ∧ a.score ≤ b.score + tolerance ∧ b.score ≤ a.score + tolerance := by
  unfold outcomeOf
  rw [ite_eq_left_iff]
  simp only [reduceCtorEq, imp_false, not_not]
  exact and_congr_right fun _ => by omega

end

/-- Settles O26: the record, then the notices, the reply and the next start, each by its lemma. -/
theorem auditGradeCompletionResolves : Obligations.AuditGradeCompletionResolves := by
  refine ⟨fun s k c first a b1 he hk hc hf ha hb => ?_, fun s h => exec_auditGradeCompletion_idle h⟩
  intro tag g
  let o := outcomeOf first g k.record.tolerance
  let c' := c.auditGraded first g o
  have hfinal : finalAfterAudit c.finalBand g o = if o = .agree then b1 else g.band := by
    cases o <;> simp [finalAfterAudit, hb]
  have hdone : s.completeAudit k = ((((s.recordAudit k c first).raiseDispute tag o).raiseQuarantine tag c'.finalBand).replyGrade
      k.submission.grader (auditResult tag g o c')).nextComputation := s.completeAudit_known hc hf
  have hlines : LinesKept s (((s.recordAudit k c first).raiseDispute tag o).raiseQuarantine tag c'.finalBand) :=
    ((LinesKept.raiseDispute ..).trans (.raiseQuarantine ..)).after
  have hcase (v : Tag) : (s.completeAudit k).case? v = if v = tag then some c' else s.case? v := by
    rw [hdone, State.case?_graded, State.case?_raiseQuarantine, State.raiseDispute_eq]
    exact State.case?_setCase ..
  have hnotice (q : Port) (e : Cause) : ((s.completeAudit k).port q).notice? e =
      if finalAfterAudit c.finalBand g o = .q ∧ e = .quarantined ∧ (s.port q).role = .stock then some (.tag tag)
      else if e = .auditDispute ∧ o = .dispute ∧ (s.port q).role = .stock then some (.tag tag) else (s.port q).notice? e := by
    have hrole := (LinesKept.raiseDispute (s.recordAudit k c first) tag o).role q
    rw [hdone, State.notice?_graded]
    refine (State.notice?_raiseQuarantine ((s.recordAudit k c first).raiseDispute tag o) tag _ q e).trans ?_
    rw [hrole, State.notice?_raiseDispute]
    rfl
  have hrest : s.completeAudit k = (((s.withCases (s.completeAudit k).cases).withEngine (s.completeAudit k).engine).withGradingQueue
      (s.completeAudit k).gradingQueue).withPorts (s.completeAudit k).ports := by
    rw [hdone, State.graded_eq, State.raiseQuarantine_eq, State.raiseDispute_eq]; rfl
  obtain ⟨h1, h2, h3, h4⟩ := hlines.graded k.submission.grader (auditResult tag g o c')
  rw [← hdone] at h1 h2 h3 h4
  refine ⟨_, o, finalAfterAudit c.finalBand g o, c', exec_auditGradeCompletion he hk, rfl, outcomeOf_eq_agree_iff .., hfinal, ?_,
    (hcase tag).trans (if_pos rfl), fun v hv => (hcase v).trans (if_neg hv), by rw [hrest]; rfl, fun q e => ?_, h1, h2, h3, h4, ?_, hrest⟩
  · show c.auditGraded first g o = _
    simp only [Case.auditGraded, gateOf, ha, Option.map_some, Option.getD_some, Bool.false_eq_true, or_false]
    rfl
  · rw [hnotice]
    by_cases hr : (s.port q).role = .stock
    · by_cases hd : e = .auditDispute ∧ o = .dispute
      · simp [hr, hd]
      · simp only [hr, hd, and_true, true_and, false_or, and_comm (a := e = .quarantined), ← and_assoc, if_false]
    · simp [hr]
  · rw [hdone]
    refine State.computationStart_nextComputation _ ?_
    rw [State.replyGrade_gradingQueue, State.raiseQuarantine_eq, State.raiseDispute_eq]; rfl

end Sys2Proof.Machine
end

section
/-! SUPPORT. Drains and departures: what they do, and that of the ports they read the roles alone. -/

namespace Sys2Proof.Machine

section
variable {s y : State} {u : ToteNo} {p : Port} {num : Byte} {r : Request}

/-! A departure -/

theorem State.depart_eq (s : State) (u : ToteNo) : s.depart u = (s.departed u).withPorts (s.depart u).ports := rfl

theorem State.notified_swapDone (h : ∀ q, y.port q = s.port q) :
    s.notified (y.raiseSwapDone u) (fun _ x => decide (x.role = .induct ∨ x.role = .stock)) .swapDone (.tote u) :=
  State.notified_raise h fun q => toInductAndStock_eq q _

/-- What a departure does: the tote, the record, the cases and the notice (R132, R136). -/
theorem State.depart_does (s : State) (u : ToteNo) :
    (s.depart u).tote u = { s.tote u with state := .opened, filled := 0, manifest := [] } ∧ s.sameTotesBut (s.depart u) u ∧
      (s.depart u).outbound = s.outbound ++ [{ tote := u, second := s.calendar.secondCount, tags := (s.tote u).manifest }] ∧
      (∀ tag, (s.depart u).case? tag = if tag ∈ (s.tote u).manifest then (s.case? tag).map fun c => { c with location := .departed }
        else s.case? tag) ∧
      s.notified (s.depart u) (fun _ x => decide (x.role = .induct ∨ x.role = .stock)) .swapDone (.tote u) ∧
      (∀ q, s.sameLinesBut (s.depart u) q) ∧
      s.depart u = (((s.withCases (s.depart u).cases).withTotes (s.depart u).totes).withOutbound (s.depart u).outbound).withPorts
        (s.depart u).ports :=
  ⟨(s.tote_depart u u).trans (if_pos rfl), fun v hv => (s.tote_depart u v).trans (if_neg hv), rfl, s.case?_depart u,
    State.notified_swapDone fun _ => rfl, (LinesKept.depart s u).sameLinesBut, rfl⟩

/-! A drain -/

/-- A drain is due and completes: the tote is empty, or a record fits into the queue (R131, R132). -/
def State.drainCompletes (s : State) (u : ToteNo) : Bool :=
  decide (((s.tote u).state = .draining ∧ (s.tote u).reserved = 0) ∧ ((s.tote u).filled = 0 ∨ s.outbound.length < Config.maxRecords))

theorem State.drainCompletes_iff (s : State) (u : ToteNo) : s.drainCompletes u = true ↔
    ((s.tote u).state = .draining ∧ (s.tote u).reserved = 0) ∧ ((s.tote u).filled = 0 ∨ s.outbound.length < Config.maxRecords) :=
  decide_eq_true_iff

theorem State.drainIfDone_empty (hd : (s.tote u).state = .draining) (hr : (s.tote u).reserved = 0) (hf : (s.tote u).filled = 0) :
    s.drainIfDone u = (s.setTote u { s.tote u with state := .opened }).raiseSwapDone u :=
  (State.drainIfDone_done ⟨hd, hr⟩).trans (if_pos hf)

theorem State.drainIfDone_departs (hd : (s.tote u).state = .draining) (hr : (s.tote u).reserved = 0) (hf : (s.tote u).filled ≠ 0)
    (hl : s.outbound.length < Config.maxRecords) : s.drainIfDone u = s.depart u :=
  (State.drainIfDone_done ⟨hd, hr⟩).trans ((if_neg hf).trans (if_pos hl))

theorem State.drainIfDone_of_not (h : ¬ s.drainCompletes u = true) : s.drainIfDone u = s := by
  rw [State.drainCompletes_iff] at h
  by_cases hd : (s.tote u).state = .draining ∧ (s.tote u).reserved = 0
  · have hf : (s.tote u).filled ≠ 0 := fun hf => h ⟨hd, .inl hf⟩
    have hl : ¬ s.outbound.length < Config.maxRecords := fun hl => h ⟨hd, .inr hl⟩
    exact (State.drainIfDone_done hd).trans ((if_neg hf).trans (if_neg hl))
  · exact State.drainIfDone_waits hd

/-- Every state that a drain leaves is one of three. -/
theorem State.drainIfDone_cases (s : State) (u : ToteNo) :
    s.drainCompletes u = true ∧ (s.drainIfDone u = (s.setTote u { s.tote u with state := .opened }).raiseSwapDone u ∧ (s.tote u).filled = 0 ∨
      s.drainIfDone u = s.depart u ∧ (s.tote u).filled ≠ 0) ∨
      ¬ s.drainCompletes u = true ∧ s.drainIfDone u = s := by
  by_cases h : s.drainCompletes u = true
  · obtain ⟨⟨hd, hr⟩, hl⟩ := (s.drainCompletes_iff u).mp h
    by_cases hf : (s.tote u).filled = 0
    · exact .inl ⟨h, .inl ⟨State.drainIfDone_empty hd hr hf, hf⟩⟩
    · exact .inl ⟨h, .inr ⟨State.drainIfDone_departs hd hr hf (hl.resolve_left hf), hf⟩⟩
  · exact .inr ⟨h, State.drainIfDone_of_not h⟩

theorem State.notice?_raiseSwapDone (s : State) (u : ToteNo) (q : Port) (e : Cause) :
    ((s.raiseSwapDone u).port q).notice? e =
      if e = .swapDone ∧ ((s.port q).role = .induct ∨ (s.port q).role = .stock) then some (.tote u) else (s.port q).notice? e := by
  rw [State.raiseSwapDone, State.notice?_raise]
  simp only [toInductAndStock_iff]

theorem State.notice?_depart (s : State) (u : ToteNo) (q : Port) (e : Cause) : ((s.depart u).port q).notice? e =
    if e = .swapDone ∧ ((s.port q).role = .induct ∨ (s.port q).role = .stock) then some (.tote u) else (s.port q).notice? e :=
  State.notice?_raiseSwapDone (s.departed u) u q e

theorem State.notice?_drainIfDone (s : State) (u : ToteNo) (q : Port) (e : Cause) : ((s.drainIfDone u).port q).notice? e =
    if s.drainCompletes u = true ∧ e = .swapDone ∧ ((s.port q).role = .induct ∨ (s.port q).role = .stock) then some (.tote u)
    else (s.port q).notice? e := by
  obtain ⟨hd, ⟨h, -⟩ | ⟨h, -⟩⟩ | ⟨hd, h⟩ := s.drainIfDone_cases u
  · rw [h, State.notice?_raiseSwapDone]; simp only [hd, true_and]; rfl
  · rw [h, State.notice?_depart]; simp only [hd, true_and]
  · rw [h, if_neg fun hh => hd hh.1]

/-- A drain reads nothing of the ports. -/
theorem State.drainIfDone_withPorts (s : State) (v : Vector PortState 8) (u : ToteNo) :
    (s.withPorts v).drainIfDone u = (s.drainIfDone u).withPorts ((s.withPorts v).drainIfDone u).ports := by
  obtain ⟨hd, ⟨h, hf⟩ | ⟨h, hf⟩⟩ | ⟨hd, h⟩ := s.drainIfDone_cases u
  · obtain ⟨⟨hst, hr⟩, -⟩ := (s.drainCompletes_iff u).mp hd
    rw [h, State.drainIfDone_empty (s := s.withPorts v) hst hr hf]; rfl
  · obtain ⟨⟨hst, hr⟩, hl⟩ := (s.drainCompletes_iff u).mp hd
    rw [h, State.drainIfDone_departs (s := s.withPorts v) hst hr hf (hl.resolve_left hf)]; rfl
  · rw [h, State.drainIfDone_of_not (s := s.withPorts v) hd]; rfl

/-- A tote, after a drain that its event completes, reads the same whatever has been raised at the ports before. -/
theorem State.notice?_drain_alike {b : State} {q : Port} {e : Cause} (hy : y = b.withPorts y.ports)
    (hr : (y.port q).role = (b.port q).role) (hn : (y.port q).notice? e = (b.port q).notice? e) :
    ((y.drainIfDone u).port q).notice? e = ((b.drainIfDone u).port q).notice? e := by
  have hsame : y.drainCompletes u = b.drainCompletes u := by rw [hy]; rfl
  simp only [State.notice?_drainIfDone, hsame, hr, hn]

theorem State.drain_alike {b : State} (hy : y = b.withPorts y.ports) :
    y.drainIfDone u = (b.drainIfDone u).withPorts (y.drainIfDone u).ports := by
  have h := b.drainIfDone_withPorts y.ports u
  rwa [← hy] at h

/-- What a request leaves that ends in a drain. -/
theorem State.drained_taken {take : State → State × Answer} {a : Answer} {b : State}
    (h : take (s.serving p num r) = (y.drainIfDone u, a)) (hy : y = b.withPorts y.ports) (hl : LinesKept (s.serving p num r) y) :
    s.taken p num r take = (b.drainIfDone u).withPorts (s.taken p num r take).ports ∧ s.sameLinesBut (s.taken p num r take) p := by
  refine ⟨?_, State.sameLinesBut_taken h (hl.trans (.drainIfDone y u))⟩
  rw [State.taken_of_eq h, State.drain_alike hy]
  rfl

end

/-- Settles O41, way by way. -/
theorem drainCompletesInThreeWays : Obligations.DrainCompletesInThreeWays := by
  intro s u
  refine ⟨fun h => congrArg went (State.drainIfDone_waits h), fun hd hr hf => ⟨_, congrArg went (State.drainIfDone_empty hd hr hf), ?_⟩,
    fun hd hr hf hl => ⟨_, congrArg went (State.drainIfDone_departs hd hr (Nat.ne_of_gt hf) hl), ?_⟩,
    fun hd hr hf hl => congrArg went (State.drainIfDone_of_not fun h => ?_)⟩
  · have htote := State.tote_setTote (s := s) u
    exact ⟨(htote u _).trans (if_pos rfl), fun v hv => (htote v _).trans (if_neg hv),
      ⟨State.notified_swapDone fun _ => rfl, (LinesKept.raiseAfter ..).sameLinesBut⟩, rfl⟩
  · obtain ⟨h1, h2, h3, h4, h5, h6, h7⟩ := s.depart_does u
    exact ⟨h1, h2, h3, h4, ⟨h5, h6⟩, h7⟩
  · exact ((s.drainCompletes_iff u).mp h).2.elim (fun h0 => absurd h0 (Nat.ne_of_gt hf)) fun hlt => absurd hl (Nat.not_le.mpr hlt)

/-! Tote Swap -/

section
variable {s : State} {p : Port} {u : ToteNo}

theorem exec_toteSwap (h : s.listens p .induct) (hlive : s.mode = .live) (num : Byte) (u : ToteNo) :
    exec (.toteSwap p num u) s = .next (s.taken p num (.toteSwap u) (takeToteSwap u)) :=
  went_arrive_taken h (by decide : 3 ≤ 160) rfl rfl rfl (.inr hlive) fun _ => rfl

theorem takeToteSwap_unused (h : (s.tote u).state = .unused) : takeToteSwap u s = (s, .bare .wrongState) := by
  simp only [takeToteSwap, h]

theorem takeToteSwap_draining (h : (s.tote u).state = .draining) : takeToteSwap u s = (s, swapReply (s.tote u)) := by
  simp only [takeToteSwap, h]

theorem takeToteSwap_starts (h : (s.tote u).state = .opened ∨ (s.tote u).state = .full) :
    takeToteSwap u s = ((s.setTote u { s.tote u with state := .draining }).drainIfDone u,
      swapReply (((s.setTote u { s.tote u with state := .draining }).drainIfDone u).tote u)) := by
  obtain h | h := h <;> simp only [takeToteSwap, h]

theorem Tote.waits_eq (k : Tote) : k.waits = decide (k.state = .draining ∧ k.reserved = 0 ∧ k.manifest ≠ []) := by
  rw [Bool.eq_iff_iff, k.waits_iff, decide_eq_true_iff]

end

/-- Settles O40, by the tote's state. -/
theorem toteSwapStartsDrain : Obligations.ToteSwapStartsDrain := by
  intro s p num u hs hlive k waits
  refine ⟨_, exec_toteSwap hs hlive num u, fun h => State.onlyAnswered_taken (takeToteSwap_unused h), fun h => ?_, fun h => ?_⟩
  · have hans := State.onlyAnswered_taken (takeToteSwap_draining (s := s.serving p num (.toteSwap u)) h)
    have hreply : swapReply k = { status := .ok, data := .swapped .draining k.reserved (waits k) } := by
      rw [swapReply, Tote.waits_eq]
      exact congrArg (fun st => Answer.mk .ok (.swapped st k.reserved (waits k))) h
    rwa [show (s.serving p num (.toteSwap u)).tote u = k from rfl, hreply] at hans
  · have htake := takeToteSwap_starts (s := s.serving p num (.toteSwap u)) h
    obtain ⟨h1, h2⟩ := State.drained_taken (b := s.setTote u { k with state := .draining }) htake rfl (.of_ports rfl)
    refine ⟨_, rfl, ?_, h1, h2, fun q e => ?_⟩
    · have hrep := State.replied_taken htake
      rw [State.drain_alike (b := s.setTote u { k with state := .draining }) rfl, State.tote_withPorts, swapReply, Tote.waits_eq] at hrep
      exact hrep
    · rw [State.notice?_taken htake]
      exact State.notice?_drain_alike rfl (State.role_serving q) (State.notice?_serving ..)

/-! A freed place -/

section
variable {s y : State} {u v : ToteNo} {p : Port}

theorem pairwise_of_risingFrom {ν : Type} : ∀ {l : List (Nat × ν)} {lo : Nat}, risingFrom lo l = true → l.Pairwise fun a b => a.1 < b.1
  | [], _, _ => .nil
  | e :: r, lo, h => by
    simp only [risingFrom, Bool.and_eq_true, decide_eq_true_eq] at h
    exact .cons (fun b hb => (findIn_of_mem h.2 hb).1) (pairwise_of_risingFrom h.2)

/-- A waiting tote is in the tote table, so some first one is found (R133). -/
theorem State.mem_totes_of_waits (h : (s.tote u).waits = true) : (u.toNat, s.tote u) ∈ s.totes.entries := by
  cases hf : s.totes.find? u.toNat with
  | none =>
    have : s.tote u = Tote.unused := by rw [State.tote, Store.get, hf]; rfl
    rw [this] at h
    cases h
  | some k =>
    have : s.tote u = k := by rw [State.tote, Store.get, hf]; rfl
    rw [this]
    exact Store.mem_of_find? hf

theorem State.firstWaiting_of_none (hs : Canonical s) (h : ∀ u, ¬ (s.tote u).waits = true) : s.firstWaiting = none := by
  cases hf : s.firstWaiting with
  | none => rfl
  | some u => exact absurd (State.waits_of_firstWaiting hs hf) (h u)

/-- The first waiting tote is the one of the lowest number (R136). -/
theorem State.firstWaiting_of_lowest (hs : Canonical s) (hu : (s.tote u).waits = true) (hmin : ∀ v, (s.tote v).waits = true → u ≤ v) :
    s.firstWaiting = some u := by
  cases hf : s.firstWaiting with
  | none =>
    rw [State.firstWaiting, Option.map_eq_none_iff, List.find?_eq_none] at hf
    exact absurd hu (hf _ (State.mem_totes_of_waits hu))
  | some v =>
    have hle := hmin v (State.waits_of_firstWaiting hs hf)
    obtain ⟨e, he, rfl⟩ := Option.map_eq_some_iff.mp hf
    obtain ⟨-, before, after, hall, hnone⟩ := List.find?_eq_some_iff_append.mp he
    obtain ⟨-, -, hsorted, hkeys, -⟩ := hs
    have hrise := pairwise_of_risingFrom (Store.sorted_of_lists hsorted)
    have hmem := State.mem_totes_of_waits hu
    have hkey := hkeys e (by rw [hall]; simp)
    rw [hall] at hrise hmem
    obtain hm | hm := List.mem_append.mp hmem
    · exact absurd hu (by simpa using hnone _ hm)
    · obtain hm | hm := List.mem_cons.mp hm
      · rw [← hm, BitVec.ofNat_toNat]; rfl
      · have hlt := List.rel_of_pairwise_cons (List.pairwise_append.mp hrise).2.1 hm
        rw [BitVec.le_def, BitVec.toNat_ofNat, Nat.mod_eq_of_lt hkey] at hle
        exact absurd hlt (Nat.not_lt.mpr hle)

theorem State.handPlace_to (hl : s.outbound.length < Config.maxRecords) (hf : s.firstWaiting = some u) : s.handPlace = s.depart u := by
  simp only [State.handPlace, if_pos hl, hf]

theorem State.handPlace_none (h : s.firstWaiting = none ∨ ¬ s.outbound.length < Config.maxRecords) : s.handPlace = s := by
  unfold State.handPlace
  obtain h | h := h
  · simp only [h, ite_self]
  · rw [if_neg h]

theorem State.handPlace_alike {b : State} (hy : y = b.withPorts y.ports) :
    y.handPlace = b.handPlace.withPorts y.handPlace.ports ∧
      ∀ q e, (y.port q).role = (b.port q).role → (y.port q).notice? e = (b.port q).notice? e →
        (y.handPlace.port q).notice? e = (b.handPlace.port q).notice? e := by
  have hl : y.outbound = b.outbound := by rw [hy]; rfl
  have hf : y.firstWaiting = b.firstWaiting := by rw [hy]; rfl
  by_cases hlen : b.outbound.length < Config.maxRecords
  · cases hb : b.firstWaiting with
    | none =>
      rw [State.handPlace_none (.inl hb), State.handPlace_none (.inl (hf.trans hb))]
      exact ⟨hy, fun _ _ _ hn => hn⟩
    | some u =>
      rw [State.handPlace_to hlen hb, State.handPlace_to (hl ▸ hlen) (hf.trans hb)]
      refine ⟨?_, fun q e hr hn => ?_⟩
      · conv_lhs => rw [hy]
        rfl
      · simp only [State.notice?_depart, hr, hn]
  · rw [State.handPlace_none (.inr hlen), State.handPlace_none (.inr (hl ▸ hlen))]
    exact ⟨hy, fun _ _ _ hn => hn⟩

theorem exec_takeManifest (h : s.listens p .stock) (num : Byte) :
    exec (.takeManifest p num) s = .next (s.taken p num .takeManifest takeTakeManifest) :=
  went_arrive_taken h (by decide) rfl rfl rfl (.inl rfl) fun _ => rfl

theorem takeTakeManifest_empty (h : s.outbound = []) : takeTakeManifest s = (s, .bare .empty) := by
  simp only [takeTakeManifest, h]

theorem takeTakeManifest_takes {r : DepartureRecord} {rest : List DepartureRecord} (h : s.outbound = r :: rest) :
    takeTakeManifest s = ((s.withOutbound rest).handPlace, { status := .ok, data := .manifest r rest.length }) := by
  simp only [takeTakeManifest, h]

end

/-- Settles O42: the reply and the hand-over of the place; then which tote it goes to. -/
theorem freedPlaceGoesToLowestWaitingTote : Obligations.FreedPlaceGoesToLowestWaitingTote := by
  refine ⟨fun s p num hs => ⟨_, exec_takeManifest hs num, ?_⟩, fun s hcan => ?_⟩
  · split
    next h => exact State.onlyAnswered_taken (takeTakeManifest_empty h)
    next r rest h =>
      have htake := takeTakeManifest_takes (s := s.serving p num .takeManifest) h
      obtain ⟨hrest, hnotice⟩ := State.handPlace_alike (y := (s.serving p num .takeManifest).withOutbound rest) (b := s.withOutbound rest) rfl
      refine ⟨State.replied_taken htake, _, rfl, ?_, State.sameLinesBut_taken htake ((LinesKept.handPlace _).after), fun q e => ?_⟩
      · rw [State.taken_of_eq htake, hrest]; rfl
      · rw [State.notice?_taken htake]
        exact hnotice q e (State.role_serving q) (State.notice?_serving ..)
  · intro waits
    refine ⟨fun u hu hmin hl => ?_, fun h => congrArg went (State.handPlace_none ?_)⟩
    · have hf := State.firstWaiting_of_lowest hcan ((Tote.waits_iff _).mpr hu) fun v hv => hmin v ((Tote.waits_iff _).mp hv)
      exact ⟨_, congrArg went (State.handPlace_to hl hf), s.depart_does u⟩
    · obtain h | h := h
      · exact .inl (State.firstWaiting_of_none hcan fun u hu => h u ((Tote.waits_iff _).mp hu))
      · exact .inr (Nat.not_lt.mpr h)

end Sys2Proof.Machine
end

section
/-! SUPPORT. Routing: the overflow walk, Route Query, Confirm Placement, the ends of reservations, and the STOP line. -/

namespace Sys2Proof.Machine

/-! The overflow walk -/

/-- A relation holds of each element of a list and the next one. -/
def Adjacent {α : Type} (R : α → α → Prop) (l : List α) : Prop :=
  ∀ (i : Nat) (v w : α), l[i]? = some v → l[i + 1]? = some w → R v w

theorem adjacent_cons_iff {α : Type} {R : α → α → Prop} {a : α} {l : List α} :
    Adjacent R (a :: l) ↔ (∀ w, l.head? = some w → R a w) ∧ Adjacent R l := by
  refine ⟨fun h => ⟨fun w hw => h 0 a w rfl (by rw [← hw, List.head?_eq_getElem?]; rfl), fun i v w hv hw => h (i + 1) v w hv hw⟩,
    fun ⟨h0, h⟩ i v w hv hw => ?_⟩
  cases i with
  | zero =>
    cases hv
    exact h0 w (by rw [List.head?_eq_getElem?]; exact hw)
  | succ i => exact h i v w hv hw

/-- The walk goes on from a tote to the one it is linked to (R105). -/
def walksOn (totes : ToteNo → Tote) (v w : ToteNo) : Prop :=
  (totes v).state ≠ .unused ∧ ¬ ((totes v).state = .opened ∧ (totes v).filled + (totes v).reserved < (totes v).capacity) ∧
    (totes v).link = some w

theorem Tote.available_iff (k : Tote) : k.available = true ↔ k.state = .opened ∧ k.filled + k.reserved < k.capacity := by
  simp [Tote.available]

section
variable {totes : ToteNo → Tote} {n : Nat} {t u w : ToteNo}

theorem walk_of_available (h : (totes t).available = true) : walk totes (n + 1) t = some t := by
  have hne : ¬ (totes t).state = .unused := by rw [((totes t).available_iff.mp h).1]; simp
  rw [walk, if_neg hne, if_pos h]

theorem walk_of_walksOn (h : walksOn totes t w) : walk totes (n + 1) t = walk totes n w := by
  obtain ⟨hne, hna, hl⟩ := h
  rw [walk, if_neg hne, if_neg fun ha => hna ((totes t).available_iff.mp ha), hl]

/-- A walk that finds a tote has found the one it began at, or has gone on. -/
theorem walk_succ_eq_some (h : walk totes (n + 1) t = some u) :
    t = u ∧ (totes u).available = true ∨ ∃ w, walksOn totes t w ∧ walk totes n w = some u := by
  unfold walk at h
  split at h
  · cases h
  next hne =>
    split at h
    next ha => cases h; exact .inl ⟨rfl, ha⟩
    next hna =>
      split at h
      · cases h
      next w hl => exact .inr ⟨w, ⟨hne, fun ha => hna ((totes t).available_iff.mpr ha), hl⟩, h⟩

/-- R105 for any number of totes that may be visited. -/
theorem walk_eq_some_iff : walk totes n t = some u ↔ (totes u).available = true ∧
    ∃ l : List ToteNo, l.length ≤ n ∧ l.head? = some t ∧ l.getLast? = some u ∧ Adjacent (walksOn totes) l := by
  induction n generalizing t with
  | zero =>
    refine ⟨fun h => (by cases h), fun ⟨_, l, hl, hh, _⟩ => ?_⟩
    rw [List.length_eq_zero_iff.mp (Nat.le_zero.mp hl)] at hh
    cases hh
  | succ n ih =>
    refine ⟨fun h => ?_, fun ⟨ha, l, hl, hh, hlast, hadj⟩ => ?_⟩
    · obtain ⟨rfl, ha⟩ | ⟨w, hon, hw⟩ := walk_succ_eq_some h
      · exact ⟨ha, [t], by simp, rfl, rfl, fun i v w _ hw => by cases hw⟩
      · obtain ⟨ha, l, hl, hh, hlast, hadj⟩ := ih.mp hw
        refine ⟨ha, t :: l, Nat.succ_le_succ hl, rfl, ?_, adjacent_cons_iff.mpr ⟨fun w' hw' => ?_, hadj⟩⟩
        · rw [List.getLast?_cons, hlast]; rfl
        · cases hh.symm.trans hw'; exact hon
    · cases l with
      | nil => cases hh
      | cons t' r =>
        cases hh
        obtain ⟨h0, hadj⟩ := adjacent_cons_iff.mp hadj
        cases r with
        | nil => cases hlast; exact walk_of_available ha
        | cons w r' =>
          rw [walk_of_walksOn (h0 w rfl)]
          exact ih.mpr ⟨ha, w :: r', Nat.le_of_succ_le_succ hl, rfl, hlast, hadj⟩

end

/-- Settles O34, the walk with at most four visits of `walk_eq_some_iff`. -/
theorem overflowWalkVisitsAtMostFour : Obligations.OverflowWalkVisitsAtMostFour := by
  intro totes first u available
  rw [walk_eq_some_iff, Tote.available_iff]
  exact Iff.rfl

/-! Requests that end in a capture -/

section
variable {s : State} {p : Port} {num : Byte} {tag : Tag} {c : Case} {u : ToteNo}

/-- What a request leaves that has captured an error and changed nothing else (R154). -/
theorem State.captured_taken {r : Request} {take : State → State × Answer} {a : Answer} {kind : ErrorKind} {x : Port} {t : Option Tag}
    {o : Option ToteNo} (h : take (s.serving p num r) = ((s.serving p num r).capture kind x t o, a)) :
    (s.taken p num r take).replied p num r a.status a.data ∧ (s.taken p num r take).errors = s.errorsAfter kind x t o ∧
      (∀ q e, (e = .errorCaptured ∧ s.tellsOfErrors q → ((s.taken p num r take).port q).notice? e = some (.error kind)) ∧
        (¬ (e = .errorCaptured ∧ s.tellsOfErrors q) → ((s.taken p num r take).port q).notice? e = (s.port q).notice? e)) ∧
      s.sameLinesBut (s.taken p num r take) p ∧
      s.taken p num r take = (s.withErrors (s.taken p num r take).errors).withPorts (s.taken p num r take).ports := by
  have hnotice (q : Port) (e : Cause) : ((s.taken p num r take).port q).notice? e =
      if e = .errorCaptured ∧ ((s.port q).role = .stock ∧ (s.errors.locked = false ∨ s.settings.everyError = true)) then some (.error kind)
      else (s.port q).notice? e := by
    rw [State.notice?_taken h, State.notice?_capture, State.notice?_serving]
    simp only [State.role_serving]
    rfl
  refine ⟨State.replied_taken h, ?_, fun q e => ⟨fun he => (hnotice q e).trans (if_pos he), fun he => (hnotice q e).trans (if_neg he)⟩,
    State.sameLinesBut_taken h (.capture ..), ?_⟩ <;> rw [State.taken_of_eq h]
  · exact State.errors_capture (s.serving p num r) kind x t o
  · conv_lhs => rw [State.capture_eq]
    rfl

/-! Route Query -/

theorem exec_routeQuery (h : s.listens p .induct) (hlive : s.mode = .live) (num : Byte) (tag : Tag) :
    exec (.routeQuery p num tag) s = .next (s.taken p num (.routeQuery tag) (takeRouteQuery p tag)) :=
  went_arrive_taken h (by decide : 6 ≤ 160) rfl rfl rfl (.inr hlive) fun _ => rfl

theorem takeRouteQuery_stopped (h : s.stopped = true) : takeRouteQuery p tag s = (s, routeReply tag .stopped) := by
  simp only [takeRouteQuery, h, if_true]

theorem takeRouteQuery_unknownTag (h : ¬ s.stopped = true) (hc : s.case? tag = none) :
    takeRouteQuery p tag s = (s, routeReply tag .unknownTag) := by
  simp only [takeRouteQuery, if_neg h, hc]

theorem takeRouteQuery_routed (h : ¬ s.stopped = true) (hc : s.case? tag = some c) (hst : c.state = .routed) {r : Reservation}
    (hr : c.reservation = some r) : takeRouteQuery p tag s = (s, routeReply tag (.tote r.tote c.routeClass r.deadline)) := by
  simp only [takeRouteQuery, if_neg h, hc, hst, hr]

theorem takeRouteQuery_notReady (h : ¬ s.stopped = true) (hc : s.case? tag = some c) (h1 : c.state ≠ .routed) (h2 : c.state ≠ .graded) :
    takeRouteQuery p tag s = (s, routeReply tag (.notReady c.state)) := by
  simp only [takeRouteQuery, if_neg h, hc]
  split
  next hst _ => exact absurd hst h1
  next hst _ => exact absurd hst h2
  next => rfl

theorem takeRouteQuery_graded (h : ¬ s.stopped = true) (hc : s.case? tag = some c) (hst : c.state = .graded) {cls : RouteClass}
    (hcls : c.classCalledFor = some cls) : takeRouteQuery p tag s = routeGraded p tag c cls s := by
  simp only [takeRouteQuery, if_neg h, hc, hst, hcls]

theorem routeGraded_unmapped {cls : RouteClass} (hm : s.mapEntry cls c.category = none) :
    routeGraded p tag c cls s = (s.capture .unmappedRoute p (some tag) none, routeReply tag (.exception cls)) := by
  simp only [routeGraded, hm]

theorem routeGraded_unused {cls : RouteClass} {first : ToteNo} (hm : s.mapEntry cls c.category = some first)
    (hst : (s.tote first).state = .unused) :
    routeGraded p tag c cls s = (s.capture .unmappedRoute p (some tag) (some first), routeReply tag (.exception cls)) := by
  simp only [routeGraded, hm, if_pos hst]

theorem routeGraded_hold {cls : RouteClass} {first : ToteNo} (hm : s.mapEntry cls c.category = some first)
    (hst : (s.tote first).state ≠ .unused) (hw : walk s.tote 4 first = none) :
    routeGraded p tag c cls s = (s, routeReply tag (.hold cls)) := by
  simp only [routeGraded, hm, if_neg hst]
  rw [show walk s.tote Config.walkLimit first = none from hw]

theorem routeGraded_reserves {cls : RouteClass} {first : ToteNo} (hm : s.mapEntry cls c.category = some first)
    (hw : walk s.tote 4 first = some u) :
    routeGraded p tag c cls s = (s.reserve tag c cls u (s.deadlineAfter s.settings.dwellLimit),
      routeReply tag (.tote u (some cls) (s.deadlineAfter s.settings.dwellLimit))) := by
  have hst : ¬ (s.tote first).state = .unused := fun h => by
    rw [walk, if_pos h] at hw
    cases hw
  simp only [routeGraded, hm, if_neg hst]
  rw [show walk s.tote Config.walkLimit first = some u from hw]
  rfl

end

/-- Settles O32, check by check. -/
theorem routeQueryAnswersWithoutAPlace : Obligations.RouteQueryAnswersWithoutAPlace := by
  intro s p num tag hs hlive hfit answers unmapped
  refine ⟨_, exec_routeQuery hs hlive num tag, ?_⟩
  split
  next hstop => exact State.onlyAnswered_taken (takeRouteQuery_stopped hstop)
  next hstop =>
    split
    next hc => exact State.onlyAnswered_taken (takeRouteQuery_unknownTag hstop hc)
    next c hc =>
      refine ⟨fun hst => ?_, fun h1 h2 => State.onlyAnswered_taken (takeRouteQuery_notReady hstop hc h1 h2), fun hst bd hbd => ?_⟩
      · obtain ⟨r, hr⟩ := Option.isSome_iff_exists.mp ((hfit c hc).2.mpr hst)
        have htake := takeRouteQuery_routed (s := s.serving p num (.routeQuery tag)) (p := p) hstop hc hst hr
        exact ⟨r, hr, State.onlyAnswered_taken htake⟩
      · obtain ⟨cls, hcls, hclass⟩ : ∃ cls, c.classCalledFor = some cls ∧
            if c.auditUnresolved then cls = .audit else cls = .ofBand bd := by
          cases ha : c.auditUnresolved <;> simp [Case.classCalledFor, ha, hbd]
        have hgraded := takeRouteQuery_graded (s := s.serving p num (.routeQuery tag)) (p := p) hstop hc hst hcls
        refine ⟨cls, fun ha => ?_, fun ha => ?_, ?_⟩
        · rwa [if_pos (c.auditUnresolved_iff.mpr ha)] at hclass
        · rw [if_neg fun h => ha (c.auditUnresolved_iff.mp h)] at hclass
          rw [hclass]
          cases bd <;> rfl
        · split
          next hm => exact State.captured_taken (hgraded.trans (routeGraded_unmapped hm))
          next first hm =>
            exact ⟨fun hu => State.captured_taken (hgraded.trans (routeGraded_unused hm hu)),
              fun hu hw => State.onlyAnswered_taken (hgraded.trans (routeGraded_hold hm hu hw))⟩

/-- Settles O33: the reservation in the tote and in the case. -/
theorem routeQueryReservesAPlace : Obligations.RouteQueryReservesAPlace := by
  intro s p num tag c cls first u hs hlive hstop hc hst hcls hm hw deadline
  have htake := (takeRouteQuery_graded (s := s.serving p num (.routeQuery tag)) (p := p) (fun h => (by cases hstop.symm.trans h)) hc hst hcls).trans
    (routeGraded_reserves hm hw)
  have htote (v : ToteNo) : (s.taken p num (.routeQuery tag) (takeRouteQuery p tag)).tote v =
      if v = u then { s.tote u with reserved := (s.tote u).reserved + 1 } else s.tote v := by
    rw [State.taken_of_eq htake]
    exact State.tote_setTote ..
  have hcase (v : Tag) : (s.taken p num (.routeQuery tag) (takeRouteQuery p tag)).case? v = if v = tag then
      some { c with state := .routed, reservation := some { tote := u, deadline := deadline, due := false },
                    routeClass := some cls, lastLapsedTote := none } else s.case? v := by
    rw [State.taken_of_eq htake]
    exact State.case?_setCase ..
  refine ⟨_, exec_routeQuery hs hlive num tag, State.answered_taken htake rfl, (htote u).trans (if_pos rfl),
    fun v hv => (htote v).trans (if_neg hv), (hcase tag).trans (if_pos rfl), fun v hv => (hcase v).trans (if_neg hv), ?_⟩
  rw [State.taken_of_eq htake]
  rfl

/-! Confirm Placement -/

section
variable {s b y : State} {p : Port} {num : Byte} {tag : Tag} {c : Case} {u : ToteNo} {r : Reservation}

theorem exec_confirmPlacement (h : s.listens p .induct) (hlive : s.mode = .live) (num : Byte) (tag : Tag) (u : ToteNo) :
    exec (.confirmPlacement p num tag u) s = .next (s.taken p num (.confirmPlacement tag u) (takeConfirmPlacement p tag u)) :=
  went_arrive_taken h (by decide : 7 ≤ 160) rfl rfl rfl (.inr hlive) fun _ => rfl

theorem takeConfirmPlacement_unknownTag (hc : s.case? tag = none) : takeConfirmPlacement p tag u s = (s, .bare .unknownTag) := by
  simp only [takeConfirmPlacement, hc]

theorem takeConfirmPlacement_places (hc : s.case? tag = some c) (hst : c.state = .routed) (hr : c.reservation = some r)
    (hu : r.tote = u) : takeConfirmPlacement p tag u s = (s.place tag c u,
      { status := .ok, data := .placed c.placedState u ((s.tote u).placed tag).filled ((s.tote u).placed tag).state }) := by
  simp only [takeConfirmPlacement, hc, hst, hr, if_pos hu]

theorem takeConfirmPlacement_wrongTote (hc : s.case? tag = some c) (hst : c.state = .routed) (hr : c.reservation = some r)
    (hu : r.tote ≠ u) : takeConfirmPlacement p tag u s =
      (s.capture .wrongTote p (some tag) (some u), { status := .wrongTote, data := .tote r.tote }) := by
  simp only [takeConfirmPlacement, hc, hst, hr, if_neg hu]

theorem takeConfirmPlacement_tooLate (hc : s.case? tag = some c) (hst : c.state = .graded) (hl : c.lastLapsedTote = some u) :
    takeConfirmPlacement p tag u s = (s.capture .latePlacement p (some tag) (some u), .bare .tooLate) := by
  simp only [takeConfirmPlacement, hc, hst, if_pos hl]

theorem takeConfirmPlacement_graded (hc : s.case? tag = some c) (hst : c.state = .graded) (hl : c.lastLapsedTote ≠ some u) :
    takeConfirmPlacement p tag u s = (s, { status := .wrongState, data := .caseState .graded }) := by
  simp only [takeConfirmPlacement, hc, hst, if_neg hl]

theorem takeConfirmPlacement_wrongState (hc : s.case? tag = some c) (h1 : c.state ≠ .routed) (h2 : c.state ≠ .graded) :
    takeConfirmPlacement p tag u s = (s, { status := .wrongState, data := .caseState c.state }) := by
  simp only [takeConfirmPlacement, hc]
  split
  next hst _ => exact absurd hst h1
  next hst => exact absurd hst h2
  next => rfl

end

/-- Settles O36, check by check. -/
theorem confirmPlacementRefused : Obligations.ConfirmPlacementRefused := by
  intro s p num tag u hs hlive req refused
  refine ⟨_, exec_confirmPlacement hs hlive num tag u, ?_⟩
  split
  next hc => exact State.onlyAnswered_taken (takeConfirmPlacement_unknownTag hc)
  next c hc =>
    refine ⟨fun r hst hr hu => ?_, fun hst hl => ?_, fun hst hl => ?_, fun h1 h2 => ?_⟩
    · exact State.captured_taken (takeConfirmPlacement_wrongTote hc hst hr hu)
    · exact State.captured_taken (takeConfirmPlacement_tooLate hc hst hl)
    · exact State.onlyAnswered_taken (takeConfirmPlacement_graded hc hst hl)
    · exact State.onlyAnswered_taken (takeConfirmPlacement_wrongState hc h1 h2)

section
variable {s b y : State} {p : Port} {num : Byte} {tag : Tag} {c : Case} {u : ToteNo} {r : Reservation}

/-- The placed case (R110, steps 3 and 4). -/
def Case.placedIn (c : Case) (u : ToteNo) : Case := { c with reservation := none, location := .inTote u, state := c.placedState }

/-- A placement before the drain that it may complete: the tote, the case and the notices (R110, steps 1 to 5). -/
def State.placing (s : State) (tag : Tag) (c : Case) (u : ToteNo) : State :=
  let s1 := (s.setTote u ((s.tote u).placed tag)).setCase tag (c.placedIn u)
  let s2 := if c.placedState = .auditWait then s1.raiseAuditReady tag else s1
  if (s.tote u).state = .opened ∧ ((s.tote u).placed tag).state = .full then s2.raise toInductAndStock .toteFull (.tote u) else s2

theorem State.place_eq (s : State) (tag : Tag) (c : Case) (u : ToteNo) : s.place tag c u = (s.placing tag c u).drainIfDone u := rfl

theorem State.placing_eq (s : State) (tag : Tag) (c : Case) (u : ToteNo) : s.placing tag c u =
    ((s.setTote u ((s.tote u).placed tag)).setCase tag (c.placedIn u)).withPorts (s.placing tag c u).ports := by
  unfold State.placing
  dsimp only
  split <;> split <;> rfl

theorem LinesKept.placing (s : State) (tag : Tag) (c : Case) (u : ToteNo) : LinesKept s (s.placing tag c u) := by
  have h : LinesKept s ((s.setTote u ((s.tote u).placed tag)).setCase tag (c.placedIn u)) := .of_ports rfl
  exact (h.thenIf (.raise ..)).thenIf (.raise ..)

theorem Case.placedState_eq_auditWait (c : Case) : c.placedState = .auditWait ↔ c.routeClass = some .audit := by
  unfold Case.placedState
  split
  next h => simp [h]
  next h => simp [h]

theorem Tote.placed_fills (k : Tote) (tag : Tag) :
    (k.state = .opened ∧ (k.placed tag).state = .full) ↔ (k.state = .opened ∧ k.capacity ≤ k.filled + 1) := by
  refine and_congr_right fun ho => ?_
  show (if k.state = .opened ∧ k.capacity ≤ k.filled + 1 then ToteState.full else k.state) = .full ↔ _
  by_cases h : k.capacity ≤ k.filled + 1 <;> simp [ho, h]

/-- The notices of a placement (R110, steps 4 and 5). -/
theorem State.notice?_placing (s : State) (tag : Tag) (c : Case) (u : ToteNo) (q : Port) (e : Cause) :
    ((s.placing tag c u).port q).notice? e =
      if e = .toteFull ∧ ((s.tote u).state = .opened ∧ (s.tote u).capacity ≤ (s.tote u).filled + 1) ∧
        ((s.port q).role = .induct ∨ (s.port q).role = .stock) then some (.tote u)
      else if e = .auditReady ∧ c.routeClass = some .audit ∧ s.auditCapable q = true then some (.tag tag)
      else (s.port q).notice? e := by
  let s1 := (s.setTote u ((s.tote u).placed tag)).setCase tag (c.placedIn u)
  let s2 := if c.placedState = .auditWait then s1.raiseAuditReady tag else s1
  have hlines : LinesKept s s2 := (LinesKept.of_ports (s := s) (t := s1) rfl).thenIf (.raise ..)
  have h2 : (s2.port q).notice? e =
      if e = .auditReady ∧ c.routeClass = some .audit ∧ s.auditCapable q = true then some (.tag tag) else (s.port q).notice? e := by
    by_cases ha : c.placedState = .auditWait
    · rw [show s2 = s1.raiseAuditReady tag from if_pos ha, State.raiseAuditReady, State.notice?_raise]
      simp only [c.placedState_eq_auditWait.mp ha, true_and]
      rfl
    · rw [show s2 = s1 from if_neg ha, if_neg fun h => ha (c.placedState_eq_auditWait.mpr h.2.1)]
      rfl
  have hrole := hlines.role q
  by_cases hf : (s.tote u).state = .opened ∧ ((s.tote u).placed tag).state = .full
  · rw [show s.placing tag c u = s2.raise toInductAndStock .toteFull (.tote u) from if_pos hf, State.notice?_raise, h2]
    simp only [toInductAndStock_iff, hrole, ((s.tote u).placed_fills tag).mp hf, true_and, and_self]
  · rw [show s.placing tag c u = s2 from if_neg hf, if_neg fun h => hf (((s.tote u).placed_fills tag).mpr h.2.1), h2]

theorem State.notice?_drainIfDone_of_ne (s : State) (u : ToteNo) (q : Port) {e : Cause} (h : e ≠ .swapDone) :
    ((s.drainIfDone u).port q).notice? e = (s.port q).notice? e := by
  rw [State.notice?_drainIfDone, if_neg fun hh => h hh.2.1]

end

/-- Settles O35: the placement, its notices and the drain it may complete, each by its lemma. -/
theorem confirmPlacementPlacesItem : Obligations.ConfirmPlacementPlacesItem := by
  intro s p num tag u c r hs hlive hc hst hr hu k fills
  have htake := takeConfirmPlacement_places (s := s.serving p num (.confirmPlacement tag u)) (p := p) hc hst hr hu
  rw [State.place_eq] at htake
  have hfills : fills → (k.placed tag).state = .full := fun h => if_pos h
  let b := (s.setTote u (k.placed tag)).setCase tag (c.placedIn u)
  obtain ⟨h1, h2⟩ := State.drained_taken (b := b) htake (State.placing_eq ..) (.placing ..)
  have hrole (q : Port) : ((s.serving p num (.confirmPlacement tag u)).port q).role = (s.port q).role := State.role_serving q
  have hplacing (q : Port) (e : Cause) := ((s.serving p num (.confirmPlacement tag u)).notice?_placing tag c u q e)
  simp only [hrole, State.notice?_serving] at hplacing
  have hnotice (q : Port) {e : Cause} (he : e ≠ .swapDone) :=
    ((State.notice?_taken htake q e).trans (State.notice?_drainIfDone_of_ne _ u q he)).trans (hplacing q e)
  refine ⟨_, b.drainIfDone u, k.placed tag, c.placedIn u, exec_confirmPlacement hs hlive num tag u, rfl, hfills, fun h => if_neg h, rfl,
    fun h => if_pos h, fun h => if_neg h, State.replied_taken htake, rfl, h1, h2, fun q => ?_, fun q => ⟨fun h => ?_, fun h => ?_⟩,
    fun q e ha hf => ?_⟩
  · rw [hnotice q (by simp)]
    simp only [reduceCtorEq, false_and, if_false, true_and]
    rfl
  · rw [hnotice q (by simp)]
    exact if_pos ⟨rfl, h⟩
  · rw [hnotice q (by simp)]
    exact (if_neg fun hh => h hh.2).trans (if_neg (by simp))
  · rw [State.notice?_taken htake]
    refine State.notice?_drain_alike (State.placing_eq ..) (((LinesKept.placing ..).role q).trans (hrole q)) ?_
    rw [hplacing, if_neg fun h => hf h.1, if_neg fun h => ha h.1]
    rfl

/-! The ends of reservations -/

section
variable {s : State} {p : Port} {tag : Tag} {c : Case} {r : Reservation}

theorem exec_cancelRoute (h : s.listens p .induct) (hlive : s.mode = .live) (num : Byte) (tag : Tag) :
    exec (.cancelRoute p num tag) s = .next (s.taken p num (.cancelRoute tag) (takeCancelRoute tag)) :=
  went_arrive_taken h (by decide : 6 ≤ 160) rfl rfl rfl (.inr hlive) fun _ => rfl

theorem takeCancelRoute_unknownTag (hc : s.case? tag = none) : takeCancelRoute tag s = (s, .bare .unknownTag) := by
  simp only [takeCancelRoute, hc]

theorem takeCancelRoute_cancels (hc : s.case? tag = some c) (hst : c.state = .routed) (hr : c.reservation = some r) :
    takeCancelRoute tag s = (((s.setTote r.tote (s.tote r.tote).placeBack).setCase tag c.unreserved).drainIfDone r.tote,
      { status := .ok, data := .tote r.tote }) := by
  simp only [takeCancelRoute, hc, hst, hr]

theorem takeCancelRoute_wrongState (hc : s.case? tag = some c) (hst : c.state ≠ .routed) :
    takeCancelRoute tag s = (s, { status := .wrongState, data := .caseState c.state }) := by
  simp only [takeCancelRoute, hc]
  split
  next h _ => exact absurd h hst
  next => rfl

theorem takeDwellLapse_due (hc : s.case? tag = some c) (hr : c.reservation = some r) (hd : r.due = true) (hs : s.stopped = false) :
    s.takeDwellLapse tag = s.lapseDwell tag c r := by
  simp only [State.takeDwellLapse, hc, hr, hd, hs, and_self, if_true]

/-- The state in which a lapse hands a place back, before the notice and the drain (R116). -/
def State.dwellBack (s : State) (tag : Tag) (c : Case) (r : Reservation) : State :=
  (s.setTote r.tote (s.tote r.tote).placeBack).setCase tag { c.unreserved with lastLapsedTote := some r.tote }

theorem State.lapseDwell_eq (s : State) (tag : Tag) (c : Case) (r : Reservation) :
    s.lapseDwell tag c r = ((s.dwellBack tag c r).raise toInduct .routeLapsed (.tag tag)).drainIfDone r.tote := rfl

end

/-- Settles O37: both ends hand the place back and then drain as DRAIN_COMPLETION does. -/
theorem reservationsAreHandedBack : Obligations.ReservationsAreHandedBack := by
  refine ⟨fun s p num tag c r hs hlive hc hst hr => ?_, fun s p num tag hs hlive hno => ⟨_, exec_cancelRoute hs hlive num tag, ?_⟩,
    fun s tag c r hc hr hd hstop => ?_, fun s tag h => congrArg went (State.takeDwellLapse_not_due h)⟩
  · have htake := takeCancelRoute_cancels (s := s.serving p num (.cancelRoute tag)) hc hst hr
    obtain ⟨h1, h2⟩ := State.drained_taken (b := (s.setTote r.tote (s.tote r.tote).placeBack).setCase tag c.unreserved) htake rfl
      (.of_ports rfl)
    refine ⟨_, _, exec_cancelRoute hs hlive num tag, State.replied_taken htake, rfl, h1, h2, fun q e => ?_⟩
    rw [State.notice?_taken htake]
    exact State.notice?_drain_alike rfl (State.role_serving q) (State.notice?_serving ..)
  · split
    next hc => exact State.onlyAnswered_taken (takeCancelRoute_unknownTag hc)
    next c hc => exact State.onlyAnswered_taken (takeCancelRoute_wrongState hc (hno c hc))
  · have hlines : LinesKept s ((s.dwellBack tag c r).raise toInduct .routeLapsed (.tag tag)) := .raiseAfter ..
    refine ⟨_, (s.dwellBack tag c r).drainIfDone r.tote, congrArg went (takeDwellLapse_due hc hr hd hstop), rfl, ?_, ?_, fun q e => ?_⟩
    · rw [State.lapseDwell_eq]
      exact State.drain_alike rfl
    · rw [State.lapseDwell_eq]
      exact (hlines.trans (.drainIfDone ..)).sameLinesBut
    · rw [State.lapseDwell_eq]
      by_cases he : e = .routeLapsed
      · subst he
        rw [State.notice?_drainIfDone_of_ne _ _ _ (by simp), State.notice?_drainIfDone_of_ne _ _ _ (by simp), State.notice?_raise]
        simp only [toInduct_iff]
        rfl
      · rw [if_neg fun h => he h.1]
        exact State.notice?_drain_alike rfl ((LinesKept.raise ..).role q) (State.notice?_raise_of_ne _ _ he _ q)

/-! The STOP line -/

/-- Settles O38, edge by edge. -/
theorem stopLineRisesAndFalls : Obligations.StopLineRisesAndFalls := by
  refine ⟨fun s hs => ⟨s.stopRises, ?_, rfl, ?_, fun tag => Store.find?_mapValues .., ?_, rfl⟩,
    fun s hs => ⟨s.stopFalls, ?_, rfl, ?_, fun tag c hc hst => ?_, fun tag hno => ?_, ?_, rfl⟩, fun s => ⟨fun hs => ?_, fun hs => ?_⟩⟩
  · exact congrArg went (by rw [hs]; rfl)
  · exact State.notified_raise (fun _ => rfl) fun q => toInductAndStock_eq q _
  · exact (LinesKept.raiseAfter ..).sameLinesBut
  · exact congrArg went (by rw [hs]; rfl)
  · exact State.notified_raise (fun _ => rfl) fun q => toInductAndStock_eq q _
  · refine (Store.find?_mapValues (fun c => c.rearmed (s.deadlineAfter s.settings.dwellLimit)) s.cases tag.toNat).trans ?_
    rw [show s.cases.find? tag.toNat = some c from hc, Option.map_some, Case.rearmed, if_pos hst]
  · refine (Store.find?_mapValues (fun c => c.rearmed (s.deadlineAfter s.settings.dwellLimit)) s.cases tag.toNat).trans ?_
    cases hc : s.cases.find? tag.toNat with
    | none => exact hc.symm
    | some c => rw [Option.map_some, Case.rearmed, if_neg (hno c hc)]; exact hc.symm
  · exact (LinesKept.raiseAfter ..).sameLinesBut
  · exact congrArg went (by rw [hs]; rfl)
  · exact congrArg went (by rw [hs]; rfl)

end Sys2Proof.Machine
end

section
/-! SUPPORT. Events in a free order, the lapses that a second event takes first, and the advance of the calendar. -/

namespace Sys2Proof.Machine

/-! Free orders -/

/-- The tags of a list are visited in its order, each after free values may have been drawn. -/
inductive Visits (act : Tag → State → State) : List Tag → State → State → Prop
  | nil (s : State) : Visits act [] s s
  | cons {t : Tag} {l : List Tag} {s u : State} (n : Nat) (h : Visits act l (act t (s.withFreeCount n)) u) : Visits act (t :: l) s u

theorem pickAt_of_lt {α : Type} : ∀ {l : List α} {i : Nat}, i < l.length → ∃ a r, pickAt l i = some (a, r) ∧ (a :: r).Perm l
  | a :: l, 0, _ => ⟨a, l, rfl, .refl _⟩
  | a :: l, i + 1, h => by
    obtain ⟨b, r, hp, hperm⟩ := pickAt_of_lt (Nat.lt_of_succ_lt_succ h)
    exact ⟨b, a :: r, by rw [pickAt, hp]; rfl, (List.Perm.swap a b r).trans (hperm.cons a)⟩

/-- One choice of a free order. -/
theorem inFreeOrder_succ (act : Tag → State → State) (n : Nat) {a b t : Tag} {l rest : List Tag} {s : State}
    (h : pickAt (a :: b :: l) (Config.freeChoice s.freeCount % (a :: b :: l).length) = some (t, rest)) :
    inFreeOrder act (n + 1) (a :: b :: l) s = inFreeOrder act n rest (act t (s.withFreeCount (s.freeCount + 1))) := by
  rw [inFreeOrder, h]
  all_goals simp

/-- A free order visits each tag of the list once (log entry 5). -/
theorem inFreeOrder_visits (act : Tag → State → State) (n : Nat) (l : List Tag) (s : State) (h : l.length = n) :
    ∃ order : List Tag, order.Perm l ∧ Visits act order s (inFreeOrder act n l s) := by
  induction n generalizing l s with
  | zero =>
    cases List.length_eq_zero_iff.mp h
    exact ⟨[], .refl _, .nil s⟩
  | succ n ih =>
    match l, h with
    | [t], _ => exact ⟨[t], .refl _, .cons s.freeCount (.nil _)⟩
    | a :: b :: l, h =>
      obtain ⟨t, rest, hp, hperm⟩ := pickAt_of_lt (l := a :: b :: l)
        (Nat.mod_lt (Config.freeChoice s.freeCount) (Nat.succ_pos _))
      obtain ⟨order, horder, hv⟩ := ih rest (act t (s.withFreeCount (s.freeCount + 1))) (Nat.succ.inj (hperm.length_eq.trans h))
      rw [inFreeOrder_succ act n hp]
      exact ⟨t :: order, (horder.cons t).trans hperm, .cons _ hv⟩

/-- What every act keeps, the visits keep. -/
theorem Visits.keeps {act : Tag → State → State} {P : State → Prop} {l : List Tag} {s u : State} (h : Visits act l s u)
    (hact : ∀ t ∈ l, ∀ s n, P s → P (act t (s.withFreeCount n))) (hs : P s) : P u := by
  induction h with
  | nil => exact hs
  | cons n _ ih => exact ih (fun t ht => hact t (List.mem_cons_of_mem _ ht)) (hact _ List.mem_cons_self _ n hs)

/-- What the act of one tag brings about and every other act keeps holds after the visits, when it is among their tags. -/
theorem Visits.reaches {act : Tag → State → State} {P Q : State → Prop} {tag : Tag} {l : List Tag} {s u : State} (h : Visits act l s u)
    (hnodup : l.Nodup) (ht : tag ∈ l) (hbefore : ∀ t s n, t ≠ tag → P s → P (act t (s.withFreeCount n)))
    (hact : ∀ s n, P s → Q (act tag (s.withFreeCount n))) (hafter : ∀ t s n, t ≠ tag → Q s → Q (act t (s.withFreeCount n)))
    (hs : P s) : Q u := by
  induction h with
  | nil => cases ht
  | @cons t l s u n h ih =>
    obtain ⟨hnew, hnodup⟩ := List.nodup_cons.mp hnodup
    by_cases hu : t = tag
    · subst hu
      exact h.keeps (fun v hv s m hq => hafter v s m (fun he => hnew (he ▸ hv)) hq) (hact s n hs)
    · exact ih hnodup ((List.mem_cons.mp ht).resolve_left fun he => hu he.symm) (hbefore t s n hu hs)

section
variable {s t : State} {tag : Tag} {c : Case} {f : Case → Bool}

/-! The tags of a table -/

theorem State.case?_of_mem (hs : Canonical s) {e : Nat × Case} (he : e ∈ s.cases.entries) : s.case? (BitVec.ofNat 32 e.1) = some e.2 := by
  obtain ⟨hsorted, hkeys, -⟩ := hs
  rw [State.case?, BitVec.toNat_ofNat, Nat.mod_eq_of_lt (hkeys e he)]
  exact Store.find?_of_mem hsorted he

theorem State.mem_tagsWhere (hs : Canonical s) : tag ∈ s.tagsWhere f ↔ ∃ c, s.case? tag = some c ∧ f c = true := by
  simp only [State.tagsWhere, List.mem_map, List.mem_filter]
  constructor
  · rintro ⟨e, ⟨he, hf⟩, rfl⟩
    exact ⟨e.2, State.case?_of_mem hs he, hf⟩
  · rintro ⟨c, hc, hf⟩
    exact ⟨(tag.toNat, c), ⟨Store.mem_of_find? hc, hf⟩, BitVec.ofNat_toNat ..⟩

theorem State.nodup_tagsWhere (hs : Canonical s) (f : Case → Bool) : (s.tagsWhere f).Nodup := by
  obtain ⟨hsorted, hkeys, -⟩ := hs
  have hrise := pairwise_of_risingFrom hsorted
  refine List.pairwise_map.mpr ((hrise.imp_of_mem fun {a b} ha hb hlt he => ?_).filter _)
  have hsame := congrArg BitVec.toNat he
  rw [BitVec.toNat_ofNat, BitVec.toNat_ofNat, Nat.mod_eq_of_lt (hkeys a ha), Nat.mod_eq_of_lt (hkeys b hb)] at hsame
  exact absurd hsame (Nat.ne_of_lt hlt)

theorem State.caseTags_eq_tagsWhere (s : State) : s.caseTags = s.tagsWhere fun _ => true := by
  rw [State.caseTags, State.tagsWhere, List.filter_true]

/-! The lapses of one case -/

theorem State.takeHoldLapse_cases (s : State) (t : Tag) : s.takeHoldLapse t = s ∨
    ∃ c h, s.case? t = some c ∧ c.holder = some h ∧ s.takeHoldLapse t = s.lapseHold t c h := by
  by_cases hd : ∀ c h, s.case? t = some c → c.holder = some h → h.due = false
  · exact .inl (State.takeHoldLapse_not_due hd)
  · simp only [not_forall, Bool.not_eq_false] at hd
    obtain ⟨c, h, hc, hh, hd⟩ := hd
    exact .inr ⟨c, h, hc, hh, State.takeHoldLapse_due hc hh hd⟩

theorem State.takeDwellLapse_cases (s : State) (t : Tag) : s.takeDwellLapse t = s ∨
    ∃ c r, s.case? t = some c ∧ c.reservation = some r ∧ s.takeDwellLapse t = s.lapseDwell t c r := by
  by_cases hd : ∀ c r, s.case? t = some c → c.reservation = some r → r.due = false ∨ s.stopped = true
  · exact .inl (State.takeDwellLapse_not_due hd)
  · simp only [not_forall, not_or, Bool.not_eq_false, Bool.not_eq_true] at hd
    obtain ⟨c, r, hc, hr, hd, hs⟩ := hd
    exact .inr ⟨c, r, hc, hr, takeDwellLapse_due hc hr hd hs⟩

/-- A drain changes of a case at most the location (R132). -/
theorem State.case?_drainIfDone (hc : s.case? tag = some c) (u : ToteNo) :
    ∃ loc, (s.drainIfDone u).case? tag = some { c with location := loc } := by
  obtain ⟨-, ⟨h, -⟩ | ⟨h, -⟩⟩ | ⟨-, h⟩ := s.drainIfDone_cases u <;> rw [h]
  · exact ⟨c.location, hc⟩
  · rw [State.case?_depart, hc]
    split
    · exact ⟨.departed, rfl⟩
    · exact ⟨c.location, rfl⟩
  · exact ⟨c.location, hc⟩

theorem State.stopped_drainIfDone (s : State) (u : ToteNo) : (s.drainIfDone u).stopped = s.stopped := by
  obtain ⟨-, ⟨h, -⟩ | ⟨h, -⟩⟩ | ⟨-, h⟩ := s.drainIfDone_cases u <;> rw [h] <;> rfl

theorem State.case?_lapseDwell_self (s : State) (tag : Tag) (c : Case) (r : Reservation) :
    ∃ loc, (s.lapseDwell tag c r).case? tag = some { c.unreserved with lastLapsedTote := some r.tote, location := loc } := by
  rw [State.lapseDwell_eq]
  refine State.case?_drainIfDone (c := { c.unreserved with lastLapsedTote := some r.tote }) ?_ r.tote
  exact (State.case?_setCase ..).trans (if_pos rfl)

theorem State.case?_lapseDwell_other {v : Tag} (hv : tag ≠ v) (hc : s.case? tag = some c) (c' : Case) (r : Reservation) :
    ∃ loc, (s.lapseDwell v c' r).case? tag = some { c with location := loc } := by
  rw [State.lapseDwell_eq]
  refine State.case?_drainIfDone ?_ r.tote
  exact (State.case?_setCase ..).trans ((if_neg hv).trans hc)

theorem LinesKept.lapseDwell (s : State) (tag : Tag) (c : Case) (r : Reservation) : LinesKept s (s.lapseDwell tag c r) := by
  rw [State.lapseDwell_eq]
  have h : LinesKept s ((s.dwellBack tag c r).raise toInduct .routeLapsed (.tag tag)) := .raiseAfter ..
  exact h.trans (.drainIfDone ..)

/-- What a dwell lapse leaves of the notices but SWAP_DONE (R116). -/
theorem State.notice?_lapseDwell (s : State) (tag : Tag) (c : Case) (r : Reservation) (q : Port) {e : Cause} (he : e ≠ .swapDone) :
    ((s.lapseDwell tag c r).port q).notice? e =
      if e = .routeLapsed ∧ (s.port q).role = .induct then some (.tag tag) else (s.port q).notice? e := by
  rw [State.lapseDwell_eq, State.notice?_drainIfDone_of_ne _ _ _ he, State.notice?_raise]
  simp only [toInduct_iff]
  rfl

/-- The lapses of one case, as a second event takes them (R141). -/
def State.lapseAt (t : Tag) (s : State) : State := (s.takeHoldLapse t).takeDwellLapse t

theorem State.case?_takeHoldLapse_other {v : Tag} (hv : tag ≠ v) (s : State) : (s.takeHoldLapse v).case? tag = s.case? tag := by
  obtain h | ⟨c, k, -, -, h⟩ := s.takeHoldLapse_cases v <;> rw [h]
  rw [State.case?_lapseHold, if_neg hv]

theorem State.case?_takeDwellLapse_other {v : Tag} (hv : tag ≠ v) (hc : s.case? tag = some c) :
    ∃ loc, (s.takeDwellLapse v).case? tag = some { c with location := loc } := by
  obtain h | ⟨c', r, -, -, h⟩ := s.takeDwellLapse_cases v <;> rw [h]
  · exact ⟨c.location, hc⟩
  · exact State.case?_lapseDwell_other hv hc c' r

/-- The lapses of another case leave of a case all but the location. -/
theorem State.case?_lapseAt_other {v : Tag} (hv : v ≠ tag) (hc : s.case? tag = some c) :
    ∃ loc, (State.lapseAt v s).case? tag = some { c with location := loc } :=
  State.case?_takeDwellLapse_other hv.symm ((State.case?_takeHoldLapse_other hv.symm s).trans hc)

theorem LinesKept.takeHoldLapse (s : State) (t : Tag) : LinesKept s (s.takeHoldLapse t) := by
  obtain h | ⟨c, k, -, -, h⟩ := s.takeHoldLapse_cases t <;> rw [h]
  · exact .refl s
  · exact .lapseHold ..

theorem LinesKept.takeDwellLapse (s : State) (t : Tag) : LinesKept s (s.takeDwellLapse t) := by
  obtain h | ⟨c, r, -, -, h⟩ := s.takeDwellLapse_cases t <;> rw [h]
  · exact .refl s
  · exact .lapseDwell ..

theorem LinesKept.lapseAt (s : State) (t : Tag) : LinesKept s (State.lapseAt t s) := (LinesKept.takeHoldLapse s t).trans (.takeDwellLapse ..)

theorem State.stopped_takeHoldLapse (s : State) (t : Tag) : (s.takeHoldLapse t).stopped = s.stopped := by
  obtain h | ⟨c, k, -, -, h⟩ := s.takeHoldLapse_cases t <;> rw [h]
  rw [State.lapseHold_eq]; rfl

theorem State.stopped_takeDwellLapse (s : State) (t : Tag) : (s.takeDwellLapse t).stopped = s.stopped := by
  obtain h | ⟨c, r, -, -, h⟩ := s.takeDwellLapse_cases t <;> rw [h]
  rw [State.lapseDwell_eq, State.stopped_drainIfDone]; rfl

/-- A port has a cause pending whose detail is some tag. -/
def PortState.toldOf (x : PortState) (e : Cause) : Prop := ∃ u, x.notice? e = some (.tag u)

/-- A lapse that raises its cause raises it with a tag. -/
theorem toldOf_takeHoldLapse {q : Port} {e : Cause} (h : (s.port q).toldOf e) (he : e = .holdLapsed ∨ e = .routeLapsed) (t : Tag) :
    ((s.takeHoldLapse t).port q).toldOf e := by
  obtain hx | ⟨c, k, -, -, hx⟩ := s.takeHoldLapse_cases t <;> rw [hx]
  · exact h
  · rw [PortState.toldOf, State.notice?_lapseHold]
    split
    · exact ⟨t, rfl⟩
    · obtain ⟨u, hu⟩ := h
      exact ⟨u, by obtain rfl | rfl := he <;> simpa using hu⟩

theorem toldOf_takeDwellLapse {q : Port} {e : Cause} (h : (s.port q).toldOf e) (he : e = .holdLapsed ∨ e = .routeLapsed) (t : Tag) :
    ((s.takeDwellLapse t).port q).toldOf e := by
  obtain hx | ⟨c, r, -, -, hx⟩ := s.takeDwellLapse_cases t <;> rw [hx]
  · exact h
  · rw [PortState.toldOf, State.notice?_lapseDwell _ _ _ _ _ (by obtain rfl | rfl := he <;> simp)]
    split
    · exact ⟨t, rfl⟩
    · exact h

theorem toldOf_lapseAt {q : Port} {e : Cause} (h : (s.port q).toldOf e) (he : e = .holdLapsed ∨ e = .routeLapsed) (t : Tag) :
    ((State.lapseAt t s).port q).toldOf e := toldOf_takeDwellLapse (toldOf_takeHoldLapse h he t) he t

/-! An outstanding lapse of a hold -/

/-- The case of a tag has a hold. -/
def HasHold (tag : Tag) (h : Hold) (s : State) : Prop := ∃ c, s.case? tag = some c ∧ c.holder = some h

/-- The hold of a tag has lapsed and has been reported. -/
def HoldLapsed (tag : Tag) (p : Port) (s : State) : Prop :=
  (∃ c, s.case? tag = some c ∧ c.holder = none ∧ c.lastLapsedHolder = some p) ∧
    ∀ q, q = p ∨ (s.port q).role = .stock → (s.port q).toldOf .holdLapsed

theorem HasHold.lapseAt {h : Hold} {v : Tag} (hs : HasHold tag h s) (hv : v ≠ tag) : HasHold tag h (State.lapseAt v s) := by
  obtain ⟨c, hc, hh⟩ := hs
  obtain ⟨loc, hc'⟩ := State.case?_lapseAt_other hv hc
  exact ⟨_, hc', hh⟩

theorem HoldLapsed.takeDwellLapse {p : Port} {v : Tag} (hs : HoldLapsed tag p s) : HoldLapsed tag p (s.takeDwellLapse v) := by
  obtain ⟨⟨c, hc, hh, hl⟩, htold⟩ := hs
  refine ⟨?_, fun q hq => toldOf_takeDwellLapse (htold q (by rwa [(LinesKept.takeDwellLapse s v).role q] at hq)) (.inl rfl) v⟩
  by_cases hv : tag = v
  · subst hv
    obtain h | ⟨c', r, hc', -, h⟩ := s.takeDwellLapse_cases tag <;> rw [h]
    · exact ⟨c, hc, hh, hl⟩
    · cases hc.symm.trans hc'
      obtain ⟨loc, hloc⟩ := s.case?_lapseDwell_self tag c r
      exact ⟨_, hloc, hh, hl⟩
  · obtain ⟨loc, hc'⟩ := State.case?_takeDwellLapse_other hv hc
    exact ⟨_, hc', hh, hl⟩

theorem HoldLapsed.lapseAt {p : Port} {v : Tag} (hs : HoldLapsed tag p s) (hv : v ≠ tag) : HoldLapsed tag p (State.lapseAt v s) := by
  refine HoldLapsed.takeDwellLapse ⟨?_, fun q hq => ?_⟩
  · rw [State.case?_takeHoldLapse_other hv.symm]; exact hs.1
  · exact toldOf_takeHoldLapse (hs.2 q (by rwa [(LinesKept.takeHoldLapse s v).role q] at hq)) (.inl rfl) v

theorem Case.holder_returned (c : Case) : c.returned.holder = none := by
  unfold Case.returned
  split <;> rfl

theorem Case.reservation_returned (c : Case) : c.returned.reservation = c.reservation := by
  unfold Case.returned
  split <;> rfl

theorem HasHold.lapses {h : Hold} (hs : HasHold tag h s) (hd : h.due = true) : HoldLapsed tag h.port (State.lapseAt tag s) := by
  obtain ⟨c, hc, hh⟩ := hs
  refine HoldLapsed.takeDwellLapse ?_
  rw [State.takeHoldLapse_due hc hh hd]
  refine ⟨⟨_, (State.case?_lapseHold ..).trans (if_pos rfl), c.holder_returned, rfl⟩, fun q hq => ⟨tag, ?_⟩⟩
  rw [(LinesKept.lapseHold s tag c h).role q] at hq
  rw [State.notice?_lapseHold, if_pos ⟨rfl, hq⟩]

/-! An outstanding lapse of a reservation -/

/-- The case of a tag has a reservation, and STOP is not asserted. -/
def HasPlace (tag : Tag) (r : Reservation) (s : State) : Prop := s.stopped = false ∧ ∃ c, s.case? tag = some c ∧ c.reservation = some r

/-- The reservation of a tag has lapsed and has been reported. -/
def PlaceLapsed (tag : Tag) (u : ToteNo) (s : State) : Prop :=
  (∃ c, s.case? tag = some c ∧ c.reservation = none ∧ c.state = .graded ∧ c.lastLapsedTote = some u) ∧
    ∀ q, (s.port q).role = .induct → (s.port q).toldOf .routeLapsed

theorem HasPlace.lapseAt {r : Reservation} {v : Tag} (hs : HasPlace tag r s) (hv : v ≠ tag) : HasPlace tag r (State.lapseAt v s) := by
  obtain ⟨hstop, c, hc, hr⟩ := hs
  obtain ⟨loc, hc'⟩ := State.case?_lapseAt_other hv hc
  exact ⟨(State.stopped_takeDwellLapse ..).trans ((State.stopped_takeHoldLapse ..).trans hstop), _, hc', hr⟩

theorem PlaceLapsed.lapseAt {u : ToteNo} {v : Tag} (hs : PlaceLapsed tag u s) (hv : v ≠ tag) : PlaceLapsed tag u (State.lapseAt v s) := by
  obtain ⟨⟨c, hc, h⟩, htold⟩ := hs
  obtain ⟨loc, hc'⟩ := State.case?_lapseAt_other hv hc
  exact ⟨⟨_, hc', h⟩, fun q hq => toldOf_lapseAt (htold q (by rwa [(LinesKept.lapseAt s v).role q] at hq)) (.inr rfl) v⟩

theorem HasPlace.takeHoldLapse {r : Reservation} (hs : HasPlace tag r s) : HasPlace tag r (s.takeHoldLapse tag) := by
  obtain ⟨hstop, c, hc, hr⟩ := hs
  refine ⟨(State.stopped_takeHoldLapse ..).trans hstop, ?_⟩
  obtain h | ⟨c', k, hc', -, h⟩ := s.takeHoldLapse_cases tag <;> rw [h]
  · exact ⟨c, hc, hr⟩
  · cases hc.symm.trans hc'
    exact ⟨_, (State.case?_lapseHold ..).trans (if_pos rfl), (c.reservation_returned).trans hr⟩

theorem HasPlace.lapses {r : Reservation} (hs : HasPlace tag r s) (hd : r.due = true) : PlaceLapsed tag r.tote (State.lapseAt tag s) := by
  obtain ⟨hstop, c, hc, hr⟩ := hs.takeHoldLapse
  rw [State.lapseAt, takeDwellLapse_due hc hr hd hstop]
  obtain ⟨loc, hloc⟩ := (s.takeHoldLapse tag).case?_lapseDwell_self tag c r
  refine ⟨⟨_, hloc, rfl, rfl, rfl⟩, fun q hq => ⟨tag, ?_⟩⟩
  rw [(LinesKept.lapseDwell ..).role q] at hq
  rw [State.notice?_lapseDwell _ _ _ _ _ (by simp), if_pos ⟨rfl, hq⟩]

/-! What a second event does after the outstanding lapses -/

theorem State.settleLapses_visits (s : State) :
    ∃ order : List Tag, order.Perm (s.tagsWhere Case.lapseDue) ∧ Visits State.lapseAt order s s.settleLapses :=
  inFreeOrder_visits State.lapseAt _ _ s rfl

theorem State.settleLapses_of_none (hs : Canonical s) (h : ∀ tag c, s.case? tag = some c → c.lapseDue = false) : s.settleLapses = s := by
  have hnil : s.tagsWhere Case.lapseDue = [] := List.eq_nil_iff_forall_not_mem.mpr fun tag ht => by
    obtain ⟨c, hc, hd⟩ := (State.mem_tagsWhere hs).mp ht
    rw [h tag c hc] at hd
    cases hd
  rw [State.settleLapses, hnil]
  rfl

theorem LinesKept.settleLapses (s : State) : LinesKept s s.settleLapses := by
  obtain ⟨order, -, hv⟩ := s.settleLapses_visits
  exact hv.keeps (P := LinesKept s) (fun t _ u n h => h.trans ((LinesKept.lapseAt (u.withFreeCount n) t).after)) (.refl s)

/-- The calendar advances, deadlines become due, and a rollover starts the sweep (R140 to R142). -/
def State.advanced (s : State) : State :=
  let s3 := (s.withCalendar s.calendar.advance).withCases
    (s.cases.mapValues (Case.markDue (s.withCalendar s.calendar.advance).secondCount s.stopped))
  if s.calendar.beforeMidnight then s3.sweepGoesOn s3.caseTags else s3

theorem State.tick_eq (s : State) : s.tick = s.settleLapses.advanced := rfl

theorem State.caseTags_mapValues (s : State) (f : Case → Case) : (s.withCases (s.cases.mapValues f)).caseTags = s.caseTags := by
  simp [State.caseTags, Store.mapValues]

/-- An advance in full: the cases, the calendar, and by day the sweep and its notice. -/
theorem State.advanced_cases (s : State) :
    ∃ s3 : State, s3.ports = s.ports ∧ s3.calendar = s.calendar.advance ∧
      (∀ v, s3.case? v = (s.case? v).map (Case.markDue (min 4294967295 (s.calendar.secondCount + 1)) s.stopped)) ∧
      s3 = (s.withCases s3.cases).withCalendar s3.calendar ∧
      (s.calendar.beforeMidnight = true ∧ s.advanced = s3.sweepGoesOn s.caseTags ∨
        s.calendar.beforeMidnight = false ∧ s.advanced = s3) := by
  refine ⟨(s.withCalendar s.calendar.advance).withCases
    (s.cases.mapValues (Case.markDue (s.withCalendar s.calendar.advance).secondCount s.stopped)), rfl, rfl,
    fun v => Store.find?_mapValues .., rfl, ?_⟩
  cases hm : s.calendar.beforeMidnight with
  | true =>
    refine .inl ⟨rfl, ?_⟩
    rw [State.advanced, if_pos hm]
    exact congrArg _ (State.caseTags_mapValues (s.withCalendar s.calendar.advance) _)
  | false =>
    refine .inr ⟨rfl, ?_⟩
    rw [State.advanced, if_neg (by simp [hm])]

theorem State.case?_sweepGoesOn (s : State) (set : List Tag) (v : Tag) : (s.sweepGoesOn set).case? v = s.case? v := by
  rw [State.sweepGoesOn_eq]; rfl

theorem State.case?_advanced (s : State) (v : Tag) :
    s.advanced.case? v = (s.case? v).map (Case.markDue (min 4294967295 (s.calendar.secondCount + 1)) s.stopped) := by
  obtain ⟨s3, -, -, h, -, ⟨-, ha⟩ | ⟨-, ha⟩⟩ := s.advanced_cases <;> rw [ha]
  · rw [State.case?_sweepGoesOn]; exact h v
  · exact h v

theorem LinesKept.advanced (s : State) : LinesKept s s.advanced := by
  obtain ⟨s3, hp, -, -, -, ⟨-, ha⟩ | ⟨-, ha⟩⟩ := s.advanced_cases <;> rw [ha]
  · exact .after (.sweepGoesOn s3 _) hp
  · exact .of_ports hp

theorem State.notice?_advanced_of_ne (s : State) (q : Port) {e : Cause} (he : e ≠ .dayClosed) :
    (s.advanced.port q).notice? e = (s.port q).notice? e := by
  obtain ⟨s3, hp, -, -, -, ⟨-, ha⟩ | ⟨-, ha⟩⟩ := s.advanced_cases <;> rw [ha]
  · rw [State.notice?_sweepGoesOn, if_neg fun h => he h.2.1, State.port_of_ports hp]
  · rw [State.port_of_ports hp]

theorem Case.markDue_eq (count : Nat) (stopped : Bool) (c : Case) : c.markDue count stopped =
    { c with holder := c.holder.map fun h => { h with due := decide (h.deadline = count) },
             reservation := c.reservation.map fun r => { r with due := decide (r.deadline = count ∧ stopped = false) } } := by
  simp [Case.markDue, Bool.decide_and]

/-- The fields of the next second, read upwards (R140, R142). -/
theorem Calendar.advance_fields (c : Calendar) :
    c.advance.second = (if c.second < 59 then c.second + 1 else 0) ∧
      c.advance.minute = (if c.second < 59 then c.minute else if c.minute < 59 then c.minute + 1 else 0) ∧
      c.advance.hour = (if c.second < 59 ∨ c.minute < 59 then c.hour else if c.hour < 23 then c.hour + 1 else 0) ∧
      c.advance.weekday = (if c.beforeMidnight then (if c.weekday < 6 then c.weekday + 1 else 0) else c.weekday) ∧
      c.advance.day = if c.beforeMidnight then min 65535 (c.day + 1) else c.day := by
  have hsecond : 59 ≤ c.second ↔ ¬ c.second < 59 := Nat.not_lt.symm
  have hminute : 59 ≤ c.minute ↔ ¬ c.minute < 59 := Nat.not_lt.symm
  have hhour : 23 ≤ c.hour ↔ ¬ c.hour < 23 := Nat.not_lt.symm
  have hweekday : 6 ≤ c.weekday ↔ ¬ c.weekday < 6 := Nat.not_lt.symm
  simp only [Calendar.advance, hsecond, hminute, hhour, hweekday, ite_not, ← not_or, true_and]
  rfl

/-- An advance changes of the calendar what `Calendar.advance` says, and the sweep. -/
theorem State.calendar_advanced (s : State) : s.advanced.calendar = { s.calendar.advance with sweep := s.advanced.calendar.sweep } := by
  obtain ⟨s3, -, hcal, -, -, ⟨-, ha⟩ | ⟨-, ha⟩⟩ := s.advanced_cases <;> rw [ha]
  · rw [State.calendar_sweepGoesOn, hcal]
  · rw [hcal]

/-- The rollover: the sweep over every case, or the end of the day at once (R142, R143). -/
theorem State.advanced_midnight (h : s.calendar.beforeMidnight = true) :
    s.advanced.calendar.sweep = (if s.caseTags = [] then none else some s.caseTags) ∧
      ∀ q e, (s.advanced.port q).notice? e =
        if s.caseTags = [] ∧ e = .dayClosed ∧ (s.port q).role = .stock then some (.day s.advanced.calendar.day)
        else (s.port q).notice? e := by
  obtain ⟨s3, hp, hcal, -, -, ⟨-, ha⟩ | ⟨hm, -⟩⟩ := s.advanced_cases
  · rw [ha, State.calendar_sweepGoesOn]
    refine ⟨rfl, fun q e => ?_⟩
    rw [State.notice?_sweepGoesOn, State.port_of_ports hp]
    rfl
  · rw [h] at hm; cases hm

theorem State.advanced_by_day (h : s.calendar.beforeMidnight = false) : s.advanced.calendar.sweep = s.calendar.sweep ∧ s.sameNotices s.advanced := by
  obtain ⟨s3, hp, hcal, -, -, ⟨hm, -⟩ | ⟨-, ha⟩⟩ := s.advanced_cases
  · rw [h] at hm; cases hm
  · rw [ha]
    exact ⟨by rw [hcal]; rfl, fun q e => by rw [State.port_of_ports hp]⟩

theorem State.advanced_eq (s : State) :
    s.advanced = ((s.withCases s.advanced.cases).withCalendar s.advanced.calendar).withPorts s.advanced.ports := by
  obtain ⟨s3, hp, -, -, heq, ⟨-, ha⟩ | ⟨-, ha⟩⟩ := s.advanced_cases <;> rw [ha]
  · rw [State.sweepGoesOn_eq, heq]; rfl
  · rw [hp, heq]; rfl

theorem State.caseTags_eq_nil_iff (s : State) : s.caseTags = [] ↔ s.cases.size = 0 := by
  rw [State.caseTags, List.map_eq_nil_iff, Store.size, List.length_eq_zero_iff]

theorem Calendar.beforeMidnight_iff (c : Calendar) : c.beforeMidnight = true ↔ 23 ≤ c.hour ∧ 59 ≤ c.minute ∧ 59 ≤ c.second := by
  simp [Calendar.beforeMidnight, and_assoc]

end

/-- Settles O43: the advance in full; then each outstanding lapse, through the visits that come first. -/
theorem secondEventAdvancesTheCalendar : Obligations.SecondEventAdvancesTheCalendar := by
  refine ⟨fun s hnone hcan => ?advance, fun s hm => ?rollover, fun s hm => ?noRollover, fun s tag c h hcan hc hh hd => ?hold,
    fun s tag c r hcan hc hr hd hstop => ?place⟩
  case rollover => exact ⟨s.tick, congrArg went (if_pos (s.calendar.beforeMidnight_iff.mpr hm)), rfl⟩
  case noRollover => exact congrArg went (if_neg fun h => hm (s.calendar.beforeMidnight_iff.mp h))
  case hold =>
    obtain ⟨order, hperm, hv⟩ := s.settleLapses_visits
    have hmem : tag ∈ order := hperm.mem_iff.mpr ((State.mem_tagsWhere hcan).mpr ⟨c, hc, by simp [Case.lapseDue, hh, hd]⟩)
    obtain ⟨⟨c', hc', hh', hl⟩, htold⟩ := hv.reaches (P := HasHold tag h) (Q := HoldLapsed tag h.port)
      (hperm.nodup_iff.mpr (State.nodup_tagsWhere hcan _)) hmem (fun t s n ht hs => HasHold.lapseAt (s := s.withFreeCount n) hs ht)
      (fun s n hs => HasHold.lapses (s := s.withFreeCount n) hs hd) (fun t s n ht hs => HoldLapsed.lapseAt (s := s.withFreeCount n) hs ht)
      ⟨c, hc, hh⟩
    refine ⟨_, Case.markDue (min 4294967295 (s.settleLapses.calendar.secondCount + 1)) s.settleLapses.stopped c', rfl,
      (State.case?_advanced ..).trans (by rw [hc', Option.map_some]), Option.map_eq_none_iff.mpr hh', hl, fun q hq => ?_⟩
    obtain ⟨u, hu⟩ := htold q (by rwa [(LinesKept.settleLapses s).role q])
    exact ⟨u, (State.notice?_advanced_of_ne _ q (by simp)).trans hu⟩
  case place =>
    obtain ⟨order, hperm, hv⟩ := s.settleLapses_visits
    have hmem : tag ∈ order := hperm.mem_iff.mpr ((State.mem_tagsWhere hcan).mpr ⟨c, hc, by simp [Case.lapseDue, hr, hd]⟩)
    obtain ⟨⟨c', hc', hr', hst, hl⟩, htold⟩ := hv.reaches (P := HasPlace tag r) (Q := PlaceLapsed tag r.tote)
      (hperm.nodup_iff.mpr (State.nodup_tagsWhere hcan _)) hmem (fun t s n ht hs => HasPlace.lapseAt (s := s.withFreeCount n) hs ht)
      (fun s n hs => HasPlace.lapses (s := s.withFreeCount n) hs hd) (fun t s n ht hs => PlaceLapsed.lapseAt (s := s.withFreeCount n) hs ht)
      ⟨hstop, c, hc, hr⟩
    refine ⟨_, Case.markDue (min 4294967295 (s.settleLapses.calendar.secondCount + 1)) s.settleLapses.stopped c', rfl,
      (State.case?_advanced ..).trans (by rw [hc', Option.map_some]), Option.map_eq_none_iff.mpr hr', hst, hl, fun q hq => ?_⟩
    obtain ⟨u, hu⟩ := htold q (by rwa [(LinesKept.settleLapses s).role q])
    exact ⟨u, (State.notice?_advanced_of_ne _ q (by simp)).trans hu⟩
  case advance =>
    intro c midnight count
    have htick : s.tick = s.advanced := by rw [State.tick_eq, State.settleLapses_of_none hcan hnone]
    have hcal := s.calendar_advanced
    obtain ⟨hsecond, hminute, hhour, hweekday, hday⟩ := s.calendar.advance_fields
    have hfield {α : Type} (f : Calendar → α) (hf : ∀ x, f { s.calendar.advance with sweep := x } = f s.calendar.advance) :
        f s.advanced.calendar = f s.calendar.advance := (congrArg f hcal).trans (hf _)
    have hnight : midnight → s.calendar.beforeMidnight = true := s.calendar.beforeMidnight_iff.mpr
    refine ⟨s.advanced, congrArg went htick, (hfield (·.second) fun _ => rfl).trans hsecond, (hfield (·.minute) fun _ => rfl).trans hminute,
      (hfield (·.hour) fun _ => rfl).trans hhour, hfield (·.secondCount) fun _ => rfl, fun hm => ⟨?_, ?_⟩, fun hm => ?_,
      fun hm hz => ⟨fun q e => ?_, s.caseTags, ?_, ?_, fun tag => ?_⟩, fun hm hz => ⟨?_, fun q e => ?_⟩, fun tag => ?_,
      (LinesKept.advanced s).sameLinesBut, s.advanced_eq⟩
    · rw [hfield (·.day) fun _ => rfl, hday, if_pos (hnight hm)]
    · rw [hfield (·.weekday) fun _ => rfl, hweekday, if_pos (hnight hm)]
    · have hm : s.calendar.beforeMidnight = false := Bool.eq_false_iff.mpr fun h => hm (s.calendar.beforeMidnight_iff.mp h)
      obtain ⟨hsweep, hnotices⟩ := State.advanced_by_day hm
      rw [hm] at hday hweekday
      exact ⟨(hfield (·.day) fun _ => rfl).trans hday, (hfield (·.weekday) fun _ => rfl).trans hweekday, hsweep, hnotices⟩
    · exact ((State.advanced_midnight (hnight hm)).2 q e).trans (if_neg fun h => hz (s.caseTags_eq_nil_iff.mp h.1))
    · exact (State.advanced_midnight (hnight hm)).1.trans (if_neg fun h => hz (s.caseTags_eq_nil_iff.mp h))
    · rw [State.caseTags_eq_tagsWhere]; exact State.nodup_tagsWhere hcan _
    · rw [State.caseTags_eq_tagsWhere, State.mem_tagsWhere hcan, Option.isSome_iff_exists]; simp
    · exact (State.advanced_midnight (hnight hm)).1.trans (if_pos (s.caseTags_eq_nil_iff.mpr hz))
    · refine ((State.advanced_midnight (hnight hm)).2 q e).trans ?_
      simp only [s.caseTags_eq_nil_iff.mpr hz, true_and, decide_eq_true_eq]
    · refine (s.case?_advanced tag).trans ?_
      exact congrArg (Option.map · (s.case? tag)) (funext (Case.markDue_eq count s.stopped))

end Sys2Proof.Machine
end

section
/-! SUPPORT. A port reset: the port itself, and the releases of its holds in a free order. -/

namespace Sys2Proof.Machine

section
variable {s u : State} {p q : Port} {tag : Tag} {c : Case} {l : List Tag}

/-! One release -/

/-- The case of a tag is held for an audit. -/
def OnAudit (s : State) (tag : Tag) : Prop := ∃ c, s.case? tag = some c ∧ c.state = .onAudit

theorem State.releaseHold_none (h : s.case? tag = none) : s.releaseHold tag = s := by
  unfold State.releaseHold
  rw [h]

theorem State.releaseHold_eq (s : State) (tag : Tag) :
    s.releaseHold tag = (s.withCases (s.releaseHold tag).cases).withPorts (s.releaseHold tag).ports := by
  cases hc : s.case? tag with
  | none => rw [State.releaseHold_none hc]; rfl
  | some c => rw [State.releaseHold_known hc, State.announceReturn_eq]; rfl

theorem LinesKept.releaseHold (s : State) (tag : Tag) : LinesKept s (s.releaseHold tag) := by
  cases hc : s.case? tag with
  | none => rw [State.releaseHold_none hc]; exact .refl s
  | some c => rw [State.releaseHold_known hc]; exact .after (.announceReturn ..)

/-- The notices of a release (R34, R93). -/
theorem State.notice?_releaseHold (s : State) (tag : Tag) (q : Port) (e : Cause) :
    (e = .auditReady ∧ OnAudit s tag ∧ s.auditCapable q = true → ((s.releaseHold tag).port q).notice? e = some (.tag tag)) ∧
      (¬ (e = .auditReady ∧ OnAudit s tag ∧ s.auditCapable q = true) → ((s.releaseHold tag).port q).notice? e = (s.port q).notice? e) := by
  cases hc : s.case? tag with
  | none =>
    rw [State.releaseHold_none hc]
    refine ⟨fun ⟨_, ⟨c, hc', _⟩, _⟩ => ?_, fun _ => rfl⟩
    rw [hc] at hc'
    cases hc'
  | some c =>
    rw [State.releaseHold_known hc, State.notice?_announceReturn]
    have haudit : OnAudit s tag ↔ c.state = .onAudit :=
      ⟨fun ⟨c', hc', hst⟩ => (by cases hc.symm.trans hc'; exact hst), fun hst => ⟨c, hc, hst⟩⟩
    rw [haudit]
    refine ⟨fun ⟨he, hst, hcap⟩ => if_pos ⟨hst, he, hcap⟩, fun h => (if_neg fun ⟨hst, he, hcap⟩ => h ⟨he, hst, hcap⟩)⟩

theorem State.attn_releaseHold (tag : Tag) (h : (s.port p).attn = (s.port p).attnLevel) :
    ((s.releaseHold tag).port p).attn = ((s.releaseHold tag).port p).attnLevel := by
  cases hc : s.case? tag with
  | none => rw [State.releaseHold_none hc]; exact h
  | some c =>
    rw [State.releaseHold_known hc]
    exact ((Quiet.announceReturn (s.setCase tag c.returned) tag c.state).ports p).attn h

/-! The releases of a list of cases -/

/-- A release, as an act of a free order. -/
def State.releaseAt (t : Tag) (s : State) : State := s.releaseHold t

theorem Visits.case?_releases (h : Visits State.releaseAt l s u) (hnodup : l.Nodup) (v : Tag) :
    (v ∉ l → u.case? v = s.case? v) ∧ (v ∈ l → u.case? v = (s.case? v).map Case.returned) := by
  induction h with
  | nil => exact ⟨fun _ => rfl, fun hv => (by cases hv)⟩
  | @cons t l s u n h ih =>
    obtain ⟨hnew, hnodup⟩ := List.nodup_cons.mp hnodup
    have hstep : (State.releaseAt t (s.withFreeCount n)).case? v = if v = t then (s.case? t).map Case.returned else s.case? v :=
      State.case?_releaseHold ..
    obtain ⟨hout, hin⟩ := ih hnodup
    by_cases hv : v = t
    · subst hv
      rw [if_pos rfl] at hstep
      exact ⟨fun hn => absurd List.mem_cons_self hn, fun _ => (hout hnew).trans hstep⟩
    · rw [if_neg hv] at hstep
      exact ⟨fun hn => (hout fun hm => hn (List.mem_cons_of_mem t hm)).trans hstep,
        fun hm => (hin ((List.mem_cons.mp hm).resolve_left hv)).trans (by rw [hstep])⟩

/-- AUDIT_READY after the releases names one of the audit cases, when there is one (R41, R93). -/
theorem Visits.auditReady_releases (h : Visits State.releaseAt l s u) (hnodup : l.Nodup) (q : Port) :
    ((∃ t ∈ l, OnAudit s t) ∧ s.auditCapable q = true →
      ∃ t ∈ l, OnAudit s t ∧ (u.port q).notice? .auditReady = some (.tag t)) ∧
    (¬ ((∃ t ∈ l, OnAudit s t) ∧ s.auditCapable q = true) → (u.port q).notice? .auditReady = (s.port q).notice? .auditReady) := by
  induction h with
  | nil => exact ⟨fun ⟨⟨_, ht, _⟩, _⟩ => (by cases ht), fun _ => rfl⟩
  | @cons t l s u n h ih =>
    obtain ⟨hnew, hnodup⟩ := List.nodup_cons.mp hnodup
    obtain ⟨hthis, hnot⟩ := (s.withFreeCount n).notice?_releaseHold t q .auditReady
    obtain ⟨hlater, hnolater⟩ := ih hnodup
    have hcap : (State.releaseAt t (s.withFreeCount n)).auditCapable q = s.auditCapable q := by
      rw [State.releaseAt, State.releaseHold_eq]; rfl
    have hsame {v : Tag} (hv : v ∈ l) : OnAudit (State.releaseAt t (s.withFreeCount n)) v ↔ OnAudit s v := by
      have hne : v ≠ t := fun he => hnew (he ▸ hv)
      have hstep : (State.releaseAt t (s.withFreeCount n)).case? v = s.case? v := (State.case?_releaseHold ..).trans (if_neg hne)
      rw [OnAudit, OnAudit, hstep]
    rw [hcap] at hlater hnolater
    by_cases hl : ∃ v ∈ l, OnAudit s v
    · have hl' : ∃ v ∈ l, OnAudit (State.releaseAt t (s.withFreeCount n)) v := by
        obtain ⟨v, hv, ha⟩ := hl
        exact ⟨v, hv, (hsame hv).mpr ha⟩
      refine ⟨fun hc => ?_, fun hc => ?_⟩
      · obtain ⟨v, hv, ha, htold⟩ := hlater ⟨hl', hc.2⟩
        exact ⟨v, List.mem_cons_of_mem t hv, (hsame hv).mp ha, htold⟩
      · have hq : ¬ s.auditCapable q = true := fun hq => by
          obtain ⟨v, hv, ha⟩ := hl
          exact hc ⟨⟨v, List.mem_cons_of_mem t hv, ha⟩, hq⟩
        exact (hnolater fun h => hq h.2).trans (hnot fun h => hq h.2.2)
    · have hno := hnolater fun ⟨⟨v, hv, ha⟩, _⟩ => hl ⟨v, hv, (hsame hv).mp ha⟩
      refine ⟨fun ⟨⟨v, hv, ha⟩, hq⟩ => ?_, fun hc => hno.trans (hnot fun ⟨_, ha, hq⟩ => hc ⟨⟨t, List.mem_cons_self, ha⟩, hq⟩)⟩
      obtain rfl | hv := List.mem_cons.mp hv
      · exact ⟨v, List.mem_cons_self, ha, hno.trans (hthis ⟨rfl, ha, hq⟩)⟩
      · exact absurd ⟨v, hv, ha⟩ hl

theorem PortState.attnLevel_of_disabled {x : PortState} (h : x.enabled = 0) : x.attnLevel = false := by
  simp [PortState.attnLevel, PortState.calls, PortState.enables, h]

theorem LinesKept.port_eq (h : LinesKept s u) (q : Port) :
    u.port q = { s.port q with notices := (u.port q).notices, attn := (u.port q).attn } := by
  obtain ⟨⟨h1, h2, h3, h4, h5⟩, h6, h7⟩ := h.lines q
  dsimp only
  rw [← h1, ← h2, ← h3, ← h4, ← h5, ← h6, ← h7]

/-- The port is cleared (R166). -/
theorem State.port_broken (s : State) (p q : Port) :
    (s.updPort p PortState.broken).port q = if q = p then { PortState.reset (s.port p).role with inBreak := true } else s.port q := by
  rw [State.port_updPort]
  by_cases h : q = p
  · subst h; rw [if_pos rfl, if_pos rfl]; rfl
  · rw [if_neg h, if_neg h]

theorem State.notice?_broken (s : State) (p q : Port) (e : Cause) :
    ((s.updPort p PortState.broken).port q).notice? e = if q = p then none else (s.port q).notice? e := by
  rw [State.port_broken]
  split
  · rfl
  · rfl

/-- The releases of a break, in the order in which they are taken (R41, R166). -/
theorem State.portBreak_visits (hd : (s.port p).deaf = false) (hs : Canonical s) :
    ∃ order : List Tag, order.Nodup ∧ (∀ t, t ∈ order ↔ ∃ c, s.case? t = some c ∧ c.holder.map (·.port) = some p) ∧
      Visits State.releaseAt order (s.updPort p PortState.broken) (s.portBreak p) := by
  obtain ⟨order, hperm, hv⟩ := inFreeOrder_visits State.releaseAt _ (s.tagsWhere fun c => decide (c.holder.map (·.port) = some p))
    (s.updPort p PortState.broken) rfl
  refine ⟨order, hperm.nodup_iff.mpr (State.nodup_tagsWhere hs _), fun t => ?_, ?_⟩
  · rw [hperm.mem_iff, State.mem_tagsWhere hs]
    simp only [decide_eq_true_eq]
  · rw [State.portBreak, if_neg (by simp [hd])]
    exact hv

end

/-- Settles O52: the port, then the releases through the visits of a free order. -/
theorem portResetReleasesHolds : Obligations.PortResetReleasesHolds := by
  refine ⟨fun s p hd hcan hfit => ?_, fun s p hd => congrArg went (if_pos hd), fun s p => ⟨_, rfl, rfl, fun q hq => ?_, ?_⟩⟩
  · intro held kept
    obtain ⟨order, hnodup, hmem, hv⟩ := State.portBreak_visits hd hcan
    have hcase (v : Tag) := hv.case?_releases hnodup v
    have hlines : LinesKept (s.updPort p PortState.broken) (s.portBreak p) :=
      hv.keeps (P := LinesKept (s.updPort p PortState.broken))
        (fun t _ x n h => h.trans ((LinesKept.releaseHold (x.withFreeCount n) t).after)) (.refl _)
    have hattn : ((s.portBreak p).port p).attn = ((s.portBreak p).port p).attnLevel :=
      hv.keeps (P := fun x => (x.port p).attn = (x.port p).attnLevel)
        (fun t _ x n h => State.attn_releaseHold (s := x.withFreeCount n) t h) (by rw [State.port_broken, if_pos rfl]; rfl)
    have hrest : s.portBreak p = ((s.withCases (s.portBreak p).cases).withFreeCount (s.portBreak p).freeCount).withPorts (s.portBreak p).ports :=
      hv.keeps (P := fun x => x = ((s.withCases x.cases).withFreeCount x.freeCount).withPorts x.ports)
        (fun t _ x n h => by rw [State.releaseAt, State.releaseHold_eq, h]; rfl) rfl
    have hnotice (q : Port) {e : Cause} (he : e ≠ .auditReady) : ((s.portBreak p).port q).notice? e = kept q e :=
      hv.keeps (P := fun x => (x.port q).notice? e = kept q e)
        (fun t _ x n h => (((x.withFreeCount n).notice?_releaseHold t q e).2 fun hh => he hh.1).trans h) (s.notice?_broken p q e)
    have haudit : (∃ t ∈ order, OnAudit (s.updPort p PortState.broken) t) ↔ ∃ t c, s.case? t = some c ∧ held c ∧ c.state = .onAudit := by
      refine exists_congr fun t => ⟨fun ⟨ht, c, hc, hst⟩ => ?_, fun ⟨c, hc, hh, hst⟩ => ⟨(hmem t).mpr ⟨c, hc, hh⟩, c, hc, hst⟩⟩
      obtain ⟨c', hc', hh⟩ := (hmem t).mp ht
      cases hc.symm.trans hc'
      exact ⟨c, hc, hh, hst⟩
    refine ⟨_, rfl, fun tag c hc => ⟨fun hh => ?_, fun hh hst => ?_, fun hh hst => ?_⟩, fun tag hc => ?_, fun q e he => hnotice q he,
      fun q => ⟨fun hq => ?_, fun hq => ?_⟩, ?_, fun q hq => ?_, hrest⟩
    · refine ((hcase tag).1 fun hm => ?_).trans hc
      obtain ⟨c', hc', hh'⟩ := (hmem tag).mp hm
      cases hc.symm.trans hc'
      exact hh hh'
    · exact ((hcase tag).2 ((hmem tag).mpr ⟨c, hc, hh⟩)).trans
        ((congrArg (Option.map Case.returned) hc).trans (congrArg some (Case.returned_onBench hst)))
    · exact ((hcase tag).2 ((hmem tag).mpr ⟨c, hc, hh⟩)).trans
        ((congrArg (Option.map Case.returned) hc).trans (congrArg some (Case.returned_onAudit hst)))
    · refine ((hcase tag).1 fun hm => ?_).trans hc
      obtain ⟨c', hc', -⟩ := (hmem tag).mp hm
      rw [hc] at hc'
      cases hc'
    · obtain ⟨t, ht, ⟨c, hc, hst⟩, htold⟩ := (hv.auditReady_releases hnodup q).1 ⟨haudit.mpr hq.1, hq.2⟩
      obtain ⟨c', hc', hh⟩ := (hmem t).mp ht
      cases hc.symm.trans hc'
      exact ⟨t, c, hc', hh, hst, htold⟩
    · exact ((hv.auditReady_releases hnodup q).2 fun h => hq ⟨haudit.mp h.1, h.2⟩).trans (s.notice?_broken p q .auditReady)
    · have hport := hlines.port_eq p
      rw [State.port_broken, if_pos rfl] at hport
      have henabled : ((s.portBreak p).port p).enabled = 0 := by rw [hport]; rfl
      rw [hattn, PortState.attnLevel_of_disabled henabled] at hport
      exact hport
    · have hport := hlines.port_eq q
      rwa [State.port_broken, if_neg hq] at hport
  · rw [State.port_updPort, if_neg hq]
  · rw [State.port_updPort, if_pos rfl]

end Sys2Proof.Machine
end

section
/-! SUPPORT. The layouts of requests, written and read back. -/

namespace Sys2Proof

/-! Numbers and marks -/

theorem word16_chars2 (n : Nat) : word16 (BitVec.ofNat 8 (n / 256)) (BitVec.ofNat 8 n) = BitVec.ofNat 16 n := by
  apply BitVec.eq_of_toNat_eq
  simp only [word16, BitVec.toNat_ofNat]
  omega

theorem word16_toNat (x : BitVec 16) : word16 (BitVec.ofNat 8 (x.toNat / 256)) (BitVec.ofNat 8 x.toNat) = x := by
  rw [word16_chars2, BitVec.ofNat_toNat]
  exact BitVec.setWidth_eq x

theorem word16_marks (m : BitVec 12) : (word16 (BitVec.ofNat 8 (m.toNat / 256)) (BitVec.ofNat 8 m.toNat)).setWidth 12 = m := by
  rw [word16_chars2]
  apply BitVec.eq_of_toNat_eq
  simp only [BitVec.toNat_setWidth, BitVec.toNat_ofNat]
  omega

theorem word32_toNat (x : BitVec 32) : word32 (BitVec.ofNat 8 (x.toNat / 16777216)) (BitVec.ofNat 8 (x.toNat / 65536))
    (BitVec.ofNat 8 (x.toNat / 256)) (BitVec.ofNat 8 x.toNat) = x := by
  apply BitVec.eq_of_toNat_eq
  simp only [word32, BitVec.toNat_ofNat]
  omega

theorem mark_markChar (b : Bool) : mark (markChar b) = b := by cases b <;> rfl

theorem AttrSet.ofChar_toChar (m : AttrSet) : AttrSet.ofChar m.toChar = m := by
  obtain ⟨a, b, c, d, e⟩ := m
  revert a b c d e
  decide

theorem setWidth_narrow {n : Nat} (h : n ≤ 8) (x : BitVec n) : (x.setWidth 8).setWidth n = x := by
  rw [BitVec.setWidth_setWidth_of_le _ h, BitVec.setWidth_eq]

/-- The size character of a Submit Grade carries the size and, in bit 6, the tag fitted (R160). -/
theorem size_of_sizeChar (x : BitVec 6) (f : Bool) : (x.setWidth 8 ||| (if f then (0x40 : Byte) else 0)).setWidth 6 = x := by
  revert x f
  decide

theorem fitted_of_sizeChar (x : BitVec 6) (f : Bool) : (x.setWidth 8 ||| (if f then (0x40 : Byte) else 0)).getLsbD 6 = f := by
  revert x f
  decide

/-! Lists -/

theorem readObservations_chars (obs : List Observation) : readObservations (obs.flatMap Observation.chars) = some obs := by
  induction obs with
  | nil => rfl
  | cons o obs ih =>
    show (readObservations (obs.flatMap Observation.chars)).map
      ({ defect := (o.defect.setWidth 8).setWidth 6, severity := (o.severity.setWidth 8).setWidth 4 } :: ·) = _
    rw [ih, setWidth_narrow (by omega), setWidth_narrow (by omega)]
    rfl

theorem readWeights_chars (es : List WeightWrite) : readWeights (es.flatMap WeightWrite.chars) = some es := by
  induction es with
  | nil => rfl
  | cons e es ih =>
    show (readWeights (es.flatMap WeightWrite.chars)).map
      ({ weight := word16 (BitVec.ofNat 8 (e.weight.toNat / 256)) (BitVec.ofNat 8 e.weight.toNat),
         wear := mark (markChar e.wear) } :: ·) = _
    rw [ih, word16_toNat, mark_markChar]
    rfl

theorem readMap_chars (es : List MapWrite) : readMap (es.flatMap MapWrite.chars) = some es := by
  induction es with
  | nil => rfl
  | cons e es ih =>
    show (readMap (es.flatMap MapWrite.chars)).map
      ({ cls := e.cls, category := e.category, valid := mark (markChar e.valid), tote := e.tote } :: ·) = _
    rw [ih, mark_markChar]
    rfl

theorem length_flatMap_const {α β : Type} {f : α → List β} {n : Nat} (h : ∀ a, (f a).length = n) (l : List α) :
    (l.flatMap f).length = n * l.length := by
  simp [List.length_flatMap, h, Nat.mul_comm]

/-! Requests -/

theorem readTag_chars4 (f : Tag → Request) (k : Byte) (t : Tag) : readTag f k (chars4 t.toNat) = f t := congrArg f (word32_toNat t)

/-- A kind outside the catalogue is read as one, whatever its fields. -/
theorem readRequest_unknown {k : Byte} (h : knownKind k = false) (fields : List Byte) : readRequest k fields = .unknownKind k := by
  unfold readRequest
  split
  case h_32 => rfl
  all_goals
    rename_i hk
    simp [knownKind, hk] at h

theorem Request.len_eq {r : Request} (h : r.spelled = true) : r.len = r.fields.length + 2 := by
  cases r with
  | writeWeights c f es => simp [Request.len, Request.fields, length_flatMap_const (f := WeightWrite.chars) (n := 3) fun _ => rfl]; omega
  | writeToteMap es => simp [Request.len, Request.fields, length_flatMap_const (f := MapWrite.chars) (n := 4) fun _ => rfl]; omega
  | submitGrade t a obs =>
    simp [Request.len, Request.fields, length_flatMap_const (f := Observation.chars) (n := 2) fun _ => rfl]; omega
  | wrongLength k => cases h
  | _ => rfl

/-- Reading inverts writing, layout by layout (R160, R167). -/
theorem readRequest_fields {r : Request} (h : r.spelled = true) : readRequest r.kind r.fields = r := by
  cases r with
  | fetchCase t => exact readTag_chars4 .fetchCase 1 t
  | cancelReturn t => exact readTag_chars4 .cancelReturn 7 t
  | reviveCase t => exact readTag_chars4 .reviveCase 8 t
  | closeCase t => exact readTag_chars4 .closeCase 9 t
  | claimCase t => exact readTag_chars4 .claimCase 25 t
  | releaseCase t => exact readTag_chars4 .releaseCase 27 t
  | routeQuery t => exact readTag_chars4 .routeQuery 28 t
  | cancelRoute t => exact readTag_chars4 .cancelRoute 30 t
  | setNoticeMask m => exact congrArg Request.setNoticeMask (word16_marks m)
  | expectReturn a =>
    show Request.expectReturn { tag := word32 _ _ _ _, category := a.category, sku := word16 _ _, size := a.size, colour := a.colour,
                                label := a.label, material := a.material, fitted := mark (markChar a.fitted), delivery := word16 _ _ } = _
    rw [word32_toNat, word16_toNat, word16_toNat, mark_markChar]
  | forceDisposition t b g =>
    exact congrArg (Request.forceDisposition · b g) (word32_toNat t)
  | writeWeights c f es =>
    show (match readWeights (es.flatMap WeightWrite.chars) with
      | some es => Request.writeWeights c f es
      | none => .wrongLength 11) = _
    rw [readWeights_chars]
  | writeCategory c w =>
    show Request.writeCategory c { step := w.step, tA := word16 _ _, tB := word16 _ _, tC := word16 _ _, window := w.window,
                                   rate := word16 _ _, tolerance := word16 _ _, mask := AttrSet.ofChar w.mask.toChar, wearLimit := word16 _ _ } = _
    simp only [word16_toNat, AttrSet.ofChar_toChar]
  | writeToteMap es =>
    show readWriteMap 13 (es.flatMap MapWrite.chars) = _
    simp only [readWriteMap, readMap_chars]
  | writeTote w =>
    show Request.writeTote { tote := w.tote, state := w.state, capacity := w.capacity,
                             link := if mark (markChar w.link.isSome) then some (w.link.getD 0) else none } = _
    rw [mark_markChar]
    obtain ⟨tote, state, capacity, link⟩ := w
    cases link <;> rfl
  | setClock w =>
    show Request.setClock { second := w.second, minute := w.minute, hour := w.hour, weekday := w.weekday, day := word16 _ _ } = _
    rw [word16_toNat]
  | reseedSampler x => exact congrArg Request.reseedSampler (word16_toNat x)
  | writeSettings w =>
    show Request.writeSettings { holdLimit := word16 _ _, dwellLimit := word16 _ _, expectLimit := w.expectLimit,
                                 everyError := mark (markChar w.everyError), auditCapable := w.auditCapable } = _
    rw [word16_toNat, word16_toNat, mark_markChar]
  | submitGrade t a obs =>
    show readSubmit 26 (_ :: _ :: _ :: _ :: _ :: a.colour :: a.label :: a.material.setWidth 8 :: obs.flatMap Observation.chars) = _
    simp only [readSubmit, readObservations_chars, word32_toNat, size_of_sizeChar, fitted_of_sizeChar]
    rw [setWidth_narrow (by omega)]
  | confirmPlacement t n =>
    exact congrArg (Request.confirmPlacement · n) (word32_toNat t)
  | unknownKind k => exact readRequest_unknown (k := k) (by simpa [Request.spelled] using h) []
  | wrongLength k => cases h
  | _ => rfl

/-- Settles O49, layout by layout. -/
theorem requestLayoutsRoundTrip : Obligations.RequestLayoutsRoundTrip := fun _ h => ⟨readRequest_fields h, Request.len_eq h⟩

end Sys2Proof
end

section
/-! SUPPORT. Frames: the assembler character by character, and the check character as a remainder. -/

namespace Sys2Proof.Machine

section
variable {s : State} {p : Port} {a b : Assembler} {len ch : Byte} {got body chars : List Byte}

/-! The assembler of one port -/

/-- The state in which a port's assembler stands elsewhere. -/
def State.assembling (s : State) (p : Port) (a : Assembler) : State := s.updPort p fun y => { y with assembler := a }

theorem State.assembling_assembling (s : State) (p : Port) (a b : Assembler) : (s.assembling p a).assembling p b = s.assembling p b :=
  State.updPort_updPort ..

theorem State.port_assembling_self (s : State) (p : Port) (a : Assembler) : (s.assembling p a).port p = { s.port p with assembler := a } := by
  rw [State.assembling, State.port_updPort, if_pos rfl]

theorem State.assembling_self (h : (s.port p).assembler = a) : s.assembling p a = s := by
  have hid : s.assembling p a = s.updPorts fun _ x => x :=
    State.updPorts_congr s (f := fun q x => if q = p then { x with assembler := a } else x) (g := fun _ x => x) fun q => by
      by_cases hq : q = p
      · subst hq h; rw [if_pos rfl]
      · rw [if_neg hq]
  rw [hid, s.updPorts_id]

theorem State.lineFault_assembling (s : State) (p : Port) (a : Assembler) (flag : LineStatus → LineStatus) :
    (s.assembling p a).lineFault p flag = s.lineFault p flag := State.updPort_updPort ..

theorem State.deaf_assembling (s : State) (p : Port) (a : Assembler) : ((s.assembling p a).port p).deaf = (s.port p).deaf := by
  rw [State.port_assembling_self]; rfl

/-! One character -/

theorem State.receiveChar_deaf (h : (s.port p).deaf = true) (ch : Byte) : s.receiveChar p ch = s := by
  simp only [State.receiveChar, h, if_true]

theorem State.receiveChar_noSync (h : (s.port p).assembler = .idle) (hc : ch ≠ 0xA5) : s.receiveChar p ch = s := by
  unfold State.receiveChar
  simp only [h]
  split
  · rfl
  · exact if_neg hc

theorem State.receiveChar_sync (h : (s.port p).assembler = .idle) (hd : (s.port p).deaf = false) :
    s.receiveChar p 0xA5 = s.assembling p .synced := by
  simp only [State.receiveChar, h, hd, Bool.false_eq_true, if_false]
  exact if_pos rfl

theorem State.receiveChar_badLen (hd : (s.port p).deaf = false) (hl : len.toNat < 2 ∨ 160 < len.toNat) :
    (s.assembling p .synced).receiveChar p len = s.lineFault p LineStatus.setLength := by
  have hd' : ({ s.port p with assembler := .synced } : PortState).deaf = false := hd
  simp only [State.receiveChar, hd', Bool.false_eq_true, if_false, State.port_assembling_self]
  exact (if_pos hl).trans (State.lineFault_assembling ..)

theorem State.receiveChar_len (hd : (s.port p).deaf = false) (h1 : 2 ≤ len.toNat) (h2 : len.toNat ≤ 160) :
    (s.assembling p .synced).receiveChar p len = s.assembling p (.body len []) := by
  have hd' : ({ s.port p with assembler := .synced } : PortState).deaf = false := hd
  simp only [State.receiveChar, hd', Bool.false_eq_true, if_false, State.port_assembling_self]
  exact (if_neg (show ¬ (len.toNat < 2 ∨ 160 < len.toNat) by omega)).trans (State.assembling_assembling ..)

theorem State.receiveChar_body (hd : (s.port p).deaf = false) (hl : got.length < len.toNat) :
    (s.assembling p (.body len got)).receiveChar p ch = s.assembling p (.body len (got ++ [ch])) := by
  have hd' : ({ s.port p with assembler := .body len got } : PortState).deaf = false := hd
  simp only [State.receiveChar, hd', Bool.false_eq_true, if_false, State.port_assembling_self, if_pos hl]
  exact State.assembling_assembling ..

theorem State.receiveChar_badCheck (hd : (s.port p).deaf = false) (hl : got.length = len.toNat) (hc : ch ≠ crc8 (len :: got)) :
    (s.assembling p (.body len got)).receiveChar p ch = s.lineFault p LineStatus.setCheck := by
  have hd' : ({ s.port p with assembler := .body len got } : PortState).deaf = false := hd
  simp only [State.receiveChar, hd', Bool.false_eq_true, if_false, State.port_assembling_self,
    if_neg (Nat.not_lt.mpr (Nat.le_of_eq hl.symm)), if_neg hc.symm]
  exact State.lineFault_assembling ..

theorem State.receiveChar_check (hd : (s.port p).deaf = false) {k num : Byte} {fields : List Byte}
    (hl : (k :: num :: fields).length = len.toNat) :
    (s.assembling p (.body len (k :: num :: fields))).receiveChar p (crc8 (len :: k :: num :: fields)) =
      (s.assembling p .idle).acceptFrame p num (readRequest k fields) := by
  have hd' : ({ s.port p with assembler := .body len (k :: num :: fields) } : PortState).deaf = false := hd
  simp only [State.receiveChar, hd', Bool.false_eq_true, if_false, State.port_assembling_self,
    if_neg (Nat.not_lt.mpr (Nat.le_of_eq hl.symm)), if_true]
  exact congrArg (·.acceptFrame p num (readRequest k fields)) (State.assembling_assembling ..)

/-! Runs of characters -/

theorem State.receive_cons (s : State) (p : Port) (ch : Byte) (chars : List Byte) :
    s.receive p (ch :: chars) = (s.receiveChar p ch).receive p chars := by
  rw [State.receive_eq, State.receive_eq]; rfl

theorem State.receive_append (s : State) (p : Port) (chars more : List Byte) :
    s.receive p (chars ++ more) = (s.receive p chars).receive p more := by
  simp only [State.receive_eq, List.foldl_append]

theorem State.receive_deaf (h : (s.port p).deaf = true) (chars : List Byte) : s.receive p chars = s := by
  induction chars with
  | nil => rfl
  | cons ch chars ih => rw [State.receive_cons, State.receiveChar_deaf h, ih]

theorem State.receive_noSync (h : (s.port p).assembler = .idle) (hc : ∀ ch ∈ chars, ch ≠ 0xA5) : s.receive p chars = s := by
  induction chars with
  | nil => rfl
  | cons ch chars ih =>
    rw [State.receive_cons, State.receiveChar_noSync h (hc ch List.mem_cons_self)]
    exact ih fun x hx => hc x (List.mem_cons_of_mem _ hx)

theorem State.receive_body (hd : (s.port p).deaf = false) (hl : got.length + chars.length ≤ len.toNat) :
    (s.assembling p (.body len got)).receive p chars = s.assembling p (.body len (got ++ chars)) := by
  induction chars generalizing got with
  | nil => rw [List.append_nil]; rfl
  | cons ch chars ih =>
    rw [List.length_cons] at hl
    rw [State.receive_cons, State.receiveChar_body hd (by omega), ih (by rw [List.length_append, List.length_singleton]; omega),
      List.append_assoc, List.singleton_append]

/-- SYNC, a LEN and that many body characters leave the assembler before CHK (R159). -/
theorem State.receive_toCheck (h : (s.port p).assembler = .idle) (hd : (s.port p).deaf = false) (h1 : 2 ≤ len.toNat)
    (h2 : len.toNat ≤ 160) (hb : body.length = len.toNat) (chk : Byte) :
    s.receive p (0xA5 :: len :: (body ++ [chk])) = (s.assembling p (.body len body)).receiveChar p chk := by
  rw [State.receive_cons, State.receiveChar_sync h hd, State.receive_cons, State.receiveChar_len hd h1 h2, State.receive_append,
    State.receive_body hd (by simp [hb]), List.nil_append, State.receive_cons]
  rfl

/-- The frame of a kind, a number and fields brings the request that they spell (R159, R163). -/
theorem State.receive_frameChars (h : (s.port p).assembler = .idle) (hd : (s.port p).deaf = false) {k num : Byte} {fields : List Byte}
    (hf : fields.length ≤ 158) : s.receive p (frameChars (k :: num :: fields)) = s.acceptFrame p num (readRequest k fields) := by
  have hlen : (BitVec.ofNat 8 (k :: num :: fields).length).toNat = (k :: num :: fields).length := by
    rw [BitVec.toNat_ofNat]
    exact Nat.mod_eq_of_lt (by simp only [List.length_cons]; omega)
  have hcount : (k :: num :: fields).length = fields.length + 2 := rfl
  show s.receive p (0xA5 :: BitVec.ofNat 8 (k :: num :: fields).length :: ((k :: num :: fields) ++ [_])) = _
  rw [State.receive_toCheck h hd (by omega) (by omega) hlen.symm, State.receiveChar_check hd hlen.symm, State.assembling_self h]

/-! Requests as frames -/

/-- A row of a request that a frame spells is its arrival (log entry 2). -/
theorem exec_requestInstr {r : Request} (h : r.spelled = true) (s : State) (p : Port) (num : Byte) :
    exec (requestInstr p num r) s = .next (s.arrive p num r) := by
  cases r with
  | wrongLength k => cases h
  | unknownKind k =>
    have hk : knownKind k = false := by simpa [Request.spelled] using h
    exact congrArg Host.Outcome.next (if_neg (by simp [hk]))
  | _ => rfl

theorem State.arrive_hears (hd : (s.port p).deaf = false) {r : Request} (hl : r.len ≤ 160) (num : Byte) :
    s.arrive p num r = (s.assembling p .idle).acceptFrame p num r := by
  rw [State.arrive, if_neg (by simp [hd])]
  exact if_neg (Nat.not_lt.mpr hl)

theorem State.receive_frame (h : (s.port p).assembler = .idle) {r : Request} (hr : r.spelled = true) (hl : r.len ≤ 160) (num : Byte) :
    s.receive p (r.frame num) = s.arrive p num r := by
  cases hd : (s.port p).deaf with
  | true => rw [State.receive_deaf hd, State.arrive_deaf hd]
  | false =>
    have hlen := Request.len_eq hr
    rw [Request.frame, State.receive_frameChars h hd (by omega), readRequest_fields hr, State.arrive_hears hd hl, State.assembling_self h]

theorem State.faultEvent_hears (hd : (s.port p).deaf = false) (flag : LineStatus → LineStatus) : s.faultEvent p flag = s.lineFault p flag :=
  if_neg (by simp [hd])

theorem State.faultEvent_deaf (hd : (s.port p).deaf = true) (flag : LineStatus → LineStatus) : s.faultEvent p flag = s := if_pos hd

theorem State.port_lineFault (s : State) (p q : Port) (flag : LineStatus → LineStatus) : (s.lineFault p flag).port q =
    if q = p then PortState.raised { s.port p with assembler := .idle, line := flag (s.port p).line } .lineFault .none else s.port q := by
  rw [State.lineFault, State.port_updPort]
  by_cases h : q = p
  · subst h; rw [if_pos rfl]
  · rw [if_neg h, if_neg h]

end

end Sys2Proof.Machine
end

section
/-! SUPPORT. The check character as the remainder of a polynomial division, and the fields of replies. -/

namespace Sys2Proof

open Polynomial

/-- A character as a polynomial over GF(2): bit i is the coefficient of X^i (R159). -/
noncomputable def charPoly (b : Byte) : (ZMod 2)[X] := ∑ i ∈ Finset.range 8, if b.getLsbD i then (X : (ZMod 2)[X]) ^ i else 0

/-- The divisor of the check character (R159). -/
noncomputable def crcPoly : (ZMod 2)[X] := X ^ 8 + X ^ 2 + X + 1

theorem charPoly_xor (a b : Byte) : charPoly (a ^^^ b) = charPoly a + charPoly b := by
  rw [charPoly, charPoly, charPoly, ← Finset.sum_add_distrib]
  refine Finset.sum_congr rfl fun i _ => ?_
  rw [BitVec.getLsbD_xor]
  cases a.getLsbD i <;> cases b.getLsbD i <;> simp [CharTwo.add_self_eq_zero]

theorem charPoly_expand (b : Byte) : charPoly b =
    (if b.getLsbD 0 then 1 else 0) + (if b.getLsbD 1 then X else 0) + (if b.getLsbD 2 then X ^ 2 else 0) +
      (if b.getLsbD 3 then X ^ 3 else 0) + (if b.getLsbD 4 then X ^ 4 else 0) + (if b.getLsbD 5 then X ^ 5 else 0) +
      (if b.getLsbD 6 then X ^ 6 else 0) + (if b.getLsbD 7 then X ^ 7 else 0) := by
  simp [charPoly, Finset.sum_range_succ]

/-- A shift multiplies by X and drops the bit shifted out. -/
theorem charPoly_shift (b : Byte) : charPoly (b <<< 1) + (if b.msb then X ^ 8 else 0) = X * charPoly b := by
  have hbit (i : Nat) (hi : i < 7) : (b <<< 1).getLsbD (i + 1) = b.getLsbD i := by
    rw [BitVec.getLsbD_shiftLeft]
    simp [show i + 1 < 8 by omega]
  have hzero : (b <<< 1).getLsbD 0 = false := by rw [BitVec.getLsbD_shiftLeft]; rfl
  have hmsb : b.msb = b.getLsbD 7 := by rw [BitVec.msb_eq_getLsbD_last]
  have hmul (c : Bool) (i : Nat) : X * (if c then (X : (ZMod 2)[X]) ^ i else 0) = if c then X ^ (i + 1) else 0 := by
    cases c <;> simp [pow_succ']
  rw [charPoly, charPoly, hmsb, Finset.sum_range_succ', Finset.mul_sum, Finset.sum_range_succ _ 7]
  simp only [hmul, hzero, Bool.false_eq_true, if_false, add_zero]
  exact congrArg (· + _) (Finset.sum_congr rfl fun i hi => by rw [hbit i (Finset.mem_range.mp hi)])

/-- One bit step multiplies by X, up to the divisor (R159). -/
theorem crcPoly_dvd_crcBit (b : Byte) : crcPoly ∣ charPoly (crcBit b) + X * charPoly b := by
  have hshift := charPoly_shift b
  unfold crcBit
  cases hm : b.msb with
  | false =>
    rw [hm, if_neg (by simp), add_zero] at hshift
    rw [if_neg (by simp), hshift, CharTwo.add_self_eq_zero]
    exact dvd_zero _
  | true =>
    rw [hm, if_pos rfl] at hshift
    have h7 : charPoly 0x07 = 1 + X + X ^ 2 := by rw [charPoly_expand]; simp
    rw [if_pos rfl, charPoly_xor, ← hshift, h7]
    refine ⟨1, ?_⟩
    have hz : charPoly (b <<< 1) + charPoly (b <<< 1) = 0 := CharTwo.add_self_eq_zero _
    rw [crcPoly]
    linear_combination hz

/-- Steps that each multiply by X, up to the divisor, multiply by its power. -/
theorem crcPoly_dvd_iterate (n : Nat) (b : Byte) : crcPoly ∣ charPoly (crcBit^[n] b) + X ^ n * charPoly b := by
  induction n generalizing b with
  | zero =>
    simp only [Function.iterate_zero, id_eq, pow_zero, one_mul, CharTwo.add_self_eq_zero, dvd_zero]
  | succ n ih =>
    rw [Function.iterate_succ_apply]
    have h := dvd_add (ih (crcBit b)) (dvd_mul_of_dvd_right (crcPoly_dvd_crcBit b) (X ^ n))
    have hz : X ^ n * charPoly (crcBit b) + X ^ n * charPoly (crcBit b) = 0 := CharTwo.add_self_eq_zero _
    convert h using 1
    linear_combination -hz

theorem crcPoly_dvd_crcByte (c b : Byte) : crcPoly ∣ charPoly (crcByte c b) + X ^ 8 * (charPoly c + charPoly b) := by
  rw [← charPoly_xor]
  exact crcPoly_dvd_iterate 8 (c ^^^ b)

/-- The characters of a message as one polynomial, the first character highest. -/
noncomputable def messagePoly (m : (ZMod 2)[X]) (chars : List Byte) : (ZMod 2)[X] := chars.foldl (fun m b => m * X ^ 8 + charPoly b) m

/-- The remainder is kept from character to character (R159). -/
theorem crcPoly_dvd_foldl (chars : List Byte) (m : (ZMod 2)[X]) (c : Byte) (h : crcPoly ∣ m * X ^ 8 + charPoly c) :
    crcPoly ∣ messagePoly m chars * X ^ 8 + charPoly (chars.foldl crcByte c) := by
  induction chars generalizing m c with
  | nil => exact h
  | cons b chars ih =>
    refine ih (m * X ^ 8 + charPoly b) (crcByte c b) ?_
    have hsum := dvd_add (dvd_mul_of_dvd_right h (X ^ 8)) (crcPoly_dvd_crcByte c b)
    have hz : X ^ 8 * charPoly c + X ^ 8 * charPoly c = 0 := CharTwo.add_self_eq_zero _
    convert hsum using 1
    linear_combination -hz

theorem crcPoly_dvd_message (chars : List Byte) : crcPoly ∣ messagePoly 0 chars * X ^ 8 + charPoly (crc8 chars) :=
  crcPoly_dvd_foldl chars 0 0 (by simp [charPoly])

end Sys2Proof

namespace Sys2Proof.Machine

/-! The fields of replies -/

theorem LineStatus.bits_flagsChar (l : LineStatus) : (List.range 8).map (BitVec.ofNat 8 l.flagsChar).getLsbD =
    [l.parity, l.framing, l.check, l.length, l.gap, l.overrun, false, false] := by
  obtain ⟨a, b, c, d, e, f⟩ := l
  revert a b c d e f
  decide

theorem chars4_toNat (t : Tag) : chars4 t.toNat = [t.extractLsb' 24 8, t.extractLsb' 16 8, t.extractLsb' 8 8, t.extractLsb' 0 8] := by
  have h (n : Nat) : t.extractLsb' n 8 = BitVec.ofNat 8 (t.toNat / 2 ^ n) := by
    rw [BitVec.extractLsb', Nat.shiftRight_eq_div_pow]
  rw [h, h, h, h]
  simp [chars4]

/-- What O48 says of the field characters of a reply. -/
theorem ReplyData.chars_layout (d : ReplyData) : (d = .none → d.chars = []) ∧ (∀ tag c, d = .caseRecord tag c → d.chars.length = 57) ∧
    (∀ l, d = .lineStatus l → ∃ ch : Byte, d.chars = [ch] ∧ (List.range 8).map ch.getLsbD =
      [l.parity, l.framing, l.check, l.length, l.gap, l.overrun, false, false]) ∧
    (∀ tag, d = .tagAlone tag → d.chars = [tag.extractLsb' 24 8, tag.extractLsb' 16 8, tag.extractLsb' 8 8, tag.extractLsb' 0 8]) := by
  refine ⟨?_, ?_, ?_, ?_⟩
  · rintro rfl; rfl
  · rintro tag c rfl; exact c.recordChars_length tag
  · rintro l rfl; exact ⟨_, rfl, l.bits_flagsChar⟩
  · rintro tag rfl; exact chars4_toNat tag

/-- Settles O48: a request's frame by its characters, CHK by the polynomial, replies by their layout, and the faults of a frame. -/
theorem goodFrameIsItsRequest : Obligations.GoodFrameIsItsRequest := by
  refine ⟨fun s p num r hr hl h => ⟨_, congrArg went (State.receive_frame h hr hl num), exec_requestInstr hr s p num⟩, crcPoly_dvd_message,
    fun r => ⟨r.data.chars, r.data.chars_length, rfl, r.data.chars_layout⟩, fun s p h => ⟨fun len chk body h1 h2 hb hc => congrArg went ?_,
      fun len rest hl hrest => congrArg went ?_, fun chars hc => congrArg went (State.receive_noSync h hc),
      fun skipped chars hc => congrArg went ?_⟩⟩
  · cases hd : (s.port p).deaf with
    | true => rw [State.receive_deaf hd, State.faultEvent_deaf hd]
    | false => rw [State.receive_toCheck h hd h1 h2 hb, State.receiveChar_badCheck hd hb hc, State.faultEvent_hears hd]
  · cases hd : (s.port p).deaf with
    | true => rw [State.receive_deaf hd, State.faultEvent_deaf hd]
    | false =>
      rw [State.receive_cons, State.receiveChar_sync h hd, State.receive_cons, State.receiveChar_badLen hd hl, State.faultEvent_hears hd]
      exact State.receive_noSync (by rw [State.port_lineFault, if_pos rfl]; rfl) hrest
  · rw [State.receive_append, State.receive_noSync h hc]

end Sys2Proof.Machine
end

section
/-! SUPPORT. Faults of the line, and the checks that refuse a request. -/

namespace Sys2Proof.Machine

section
variable {s : State} {p : Port}

/-! Faults -/

/-- What a fault of the line leaves (R161). -/
theorem State.lineFault_does (s : State) (p : Port) (flag : LineStatus → LineStatus) :
    s.lineFault p flag = s.withPorts (s.lineFault p flag).ports ∧ (∀ q, q ≠ p → (s.lineFault p flag).port q = s.port q) ∧
      (∀ e, ((s.lineFault p flag).port p).notice? e = if e = .lineFault then some .none else (s.port p).notice? e) ∧
      (s.lineFault p flag).port p =
        { s.port p with line := flag (s.port p).line, assembler := .idle,
                        notices := ((s.lineFault p flag).port p).notices, attn := ((s.lineFault p flag).port p).attn } := by
  have hself := (s.port_lineFault p p flag).trans (if_pos rfl)
  refine ⟨rfl, fun q hq => (s.port_lineFault p q flag).trans (if_neg hq), fun e => ?_, ?_⟩
  · rw [hself, PortState.notice?_raised]; rfl
  · rw [hself]; rfl

theorem State.assembler_lineFault (s : State) (p : Port) (flag : LineStatus → LineStatus) :
    ((s.lineFault p flag).port p).assembler = .idle := by
  rw [State.port_lineFault, if_pos rfl]; rfl

theorem State.deaf_lineFault (s : State) (p : Port) (flag : LineStatus → LineStatus) :
    ((s.lineFault p flag).port p).deaf = (s.port p).deaf := by
  rw [State.port_lineFault, if_pos rfl]; rfl

/-- After a gap the late character arrives at an idle assembler (R161). -/
theorem State.receiveChar_afterFault (hd : (s.port p).deaf = false) (flag : LineStatus → LineStatus) (late : Byte) :
    (s.lineFault p flag).receiveChar p late = (s.lineFault p flag).assembling p (if late = 0xA5 then .synced else .idle) := by
  have hidle := s.assembler_lineFault p flag
  by_cases hl : late = 0xA5
  · rw [hl, State.receiveChar_sync hidle ((s.deaf_lineFault p flag).trans hd), if_pos rfl]
  · rw [State.receiveChar_noSync hidle hl, if_neg hl, State.assembling_self hidle]

/-- A data or parity bit received wrong (R161). -/
theorem State.receiveBits_flip_parity (s : State) (p : Port) (ch : Byte) {i : Nat} (h1 : 1 ≤ i) (h9 : i ≤ 9) :
    s.receiveBits p ((charBits ch).modify i not) = s.faultEvent p LineStatus.setParity := by
  have hread := readChar_flip_parity ch ⟨i - 1, by omega⟩
  rw [show i - 1 + 1 = i by omega] at hread
  obtain ⟨c, hc, hok⟩ := Option.map_eq_some_iff.mp hread
  obtain ⟨hparity, hstop⟩ := Prod.mk.inj hok
  simp [State.receiveBits, hc, hparity, hstop]

/-- The stop bit received wrong (R161). -/
theorem State.receiveBits_flip_stop (s : State) (p : Port) (ch : Byte) :
    s.receiveBits p ((charBits ch).modify 10 not) = s.faultEvent p LineStatus.setFraming := by
  simp [State.receiveBits, readChar_flip_stop]

end

theorem charBits_data (ch : Byte) {i : Nat} (h : i < 8) : (charBits ch)[i + 1]? = some (ch.getLsbD i) := by
  rw [charBits, List.getElem?_cons_succ, List.getElem?_append_left (by simpa [dataBits] using h)]
  simp [dataBits, h]

/-- The parity bit makes the number of ones even (R158). -/
theorem charBits_parity (ch : Byte) : ((charBits ch).take 10).count true % 2 = 0 := by
  revert ch
  decide +kernel

/-- Settles O51: the five faults by `State.lineFault_does`, and the bits of a character by reading them back. -/
theorem lineFaultsSetTheirFlags : Obligations.LineFaultsSetTheirFlags := by
  intro s p faulted l
  have hfault {i : Instr} (flag : LineStatus → LineStatus) (hd : (s.port p).deaf = false) (hi : exec i s = .next (s.faultEvent p flag)) :
      ∃ t, exec i s = .next t ∧ faulted t (flag l) .idle := by
    rw [State.faultEvent_hears hd] at hi
    exact ⟨_, hi, s.lineFault_does p flag⟩
  have hdeaf {i : Instr} (flag : LineStatus → LineStatus) (hd : (s.port p).deaf = true) (hi : exec i s = .next (s.faultEvent p flag)) :
      exec i s = .next s := by rwa [State.faultEvent_deaf hd] at hi
  refine ⟨fun hd => ⟨hfault .setParity hd rfl, hfault .setFraming hd rfl, hfault .setCheck hd rfl, hfault .setLength hd rfl, fun late => ?_⟩,
    fun hd => ⟨hdeaf .setParity hd rfl, hdeaf .setFraming hd rfl, hdeaf .setCheck hd rfl, hdeaf .setLength hd rfl, fun late => ?_⟩,
    fun ch => ⟨rfl, rfl, fun i hi => charBits_data ch hi, charBits_parity ch, rfl, rfl, fun i h1 h9 => ?_, ?_⟩⟩
  · refine ⟨(s.lineFault p LineStatus.setGap).assembling p (if late = 0xA5 then .synced else .idle), ?_, ?_⟩
    · refine congrArg went ?_
      rw [State.faultEvent_hears hd, State.receiveChar_afterFault hd]
    · obtain ⟨h1, h2, h3, h4⟩ := s.lineFault_does p LineStatus.setGap
      refine ⟨rfl, fun q hq => ?_, fun e => ?_, ?_⟩
      · rw [State.assembling, State.port_updPort, if_neg hq]; exact h2 q hq
      · rw [State.port_assembling_self]; exact h3 e
      · rw [State.port_assembling_self]
        exact congrArg (fun x : PortState => { x with assembler := if late = 0xA5 then .synced else .idle }) h4
  · refine congrArg went ?_
    rw [State.faultEvent_deaf hd, State.receiveChar_deaf hd]
  · exact congrArg went (s.receiveBits_flip_parity p ch h1 h9).symm
  · exact congrArg went (s.receiveBits_flip_stop p ch).symm

/-! The checks of R165 and mode control -/

section
variable {s : State} {p : Port} {role : Role} {mode : Mode} {num k : Byte} {r : Request}

theorem portCheck_badKind (h : knownKind r.kind = false) : portCheck role mode r = some .badKind := by
  simp [portCheck, h]

theorem portCheck_role (h : knownKind r.kind = true) (h' : roleAllows role r.kind = false) : portCheck role mode r = some .role := by
  simp [portCheck, h, h']

theorem portCheck_badLength (h : knownKind r.kind = true) (h' : roleAllows role r.kind = true) (hl : r.lengthFits = false) :
    portCheck role mode r = some .badLength := by
  simp [portCheck, h, h', hl]

theorem portCheck_notLive (h : knownKind r.kind = true) (h' : roleAllows role r.kind = true) (hl : r.lengthFits = true)
    (hn : needsLive r.kind = true) : portCheck role .config r = some .notLive := by
  simp [portCheck, h, h', hl, hn]

theorem knownKind_iff (k : Byte) : knownKind k = true ↔ 1 ≤ k.toNat ∧ k.toNat ≤ 31 := by
  simp [knownKind]

theorem knownKind_eq_false (h : k.toNat = 0 ∨ 31 < k.toNat) : knownKind k = false := by
  rw [← Bool.not_eq_true, knownKind_iff]
  omega

/-- The kinds of a role that is not OFF (R167). -/
theorem roleAllows_iff (hr : role ≠ .off) (k : Byte) : roleAllows role k = true ↔
    k.toNat ≤ 5 ∨ role = .stock ∧ 6 ≤ k.toNat ∧ k.toNat ≤ 24 ∨ role = .bench ∧ 25 ≤ k.toNat ∧ k.toNat ≤ 27 ∨
      role = .induct ∧ 28 ≤ k.toNat ∧ k.toNat ≤ 31 := by
  cases role with
  | off => exact absurd rfl hr
  | bench => simp [roleAllows]
  | induct => simp [roleAllows]
  | stock => simp [roleAllows]

/-- The fields of a NOT_LIVE reply (log entry 19). -/
def notLiveData : Request → ReplyData
  | .routeQuery tag => .tagAlone tag
  | _ => .none

theorem refusalAnswer_eq (r : Request) : refusalAnswer r .notLive = { status := .notLive, data := notLiveData r } := by
  cases r <;> rfl

/-- A request that the checks refuse with another status than NOT_LIVE. -/
theorem State.onlyAnswered_refused (h : s.listens p role) (hl : r.len ≤ 160) {st : Status} (hc : portCheck role s.mode r = some st)
    (hst : st ≠ .notLive) : s.onlyAnswered (s.arrive p num r) p num r st .none := by
  rw [State.arrive_refused h hl hc, refusalAnswer_of_ne_notLive hst]
  exact State.onlyAnswered_setReply (.bare st)

theorem State.onlyAnswered_notLive (h : s.listens p role) (hl : r.len ≤ 160) (hc : portCheck role s.mode r = some .notLive) :
    s.onlyAnswered (s.arrive p num r) p num r .notLive (notLiveData r) := by
  rw [State.arrive_refused h hl hc, refusalAnswer_eq]
  exact State.onlyAnswered_setReply { status := .notLive, data := notLiveData r }

theorem listCount_refused {α : Type} {es : List α} (h : es = [] ∨ 16 < es.length) :
    (decide (1 ≤ es.length) && decide (es.length ≤ 16)) = false := by
  obtain rfl | h := h
  · rfl
  · rw [decide_eq_false (Nat.not_le.mpr h), Bool.and_false]

/-- Of the kinds that only LIVE takes, Submit Grade alone carries a list. -/
theorem Request.lengthFits_of_live (h : r.spelled = true) (hk : 25 ≤ r.kind.toNat)
    (hobs : ∀ tag a obs, r = .submitGrade tag a obs → obs.length ≤ 16) : r.lengthFits = true := by
  cases r with
  | submitGrade tag a obs => exact decide_eq_true (hobs tag a obs rfl)
  | writeWeights c f es => exact absurd hk (show ¬ 25 ≤ 11 by decide)
  | writeToteMap es => exact absurd hk (show ¬ 25 ≤ 13 by decide)
  | wrongLength k => cases h
  | _ => rfl

/-- Only a kind of the catalogue can have the wrong length. -/
theorem knownKind_of_wrongLength {fields : List Byte} (h : readRequest k fields = .wrongLength k) : knownKind k = true := by
  cases hk : knownKind k with
  | true => rfl
  | false =>
    rw [readRequest_unknown hk] at h
    cases h

end

/-- Settles O53, check by check. -/
theorem portChecksRefuse : Obligations.PortChecksRefuse := by
  intro s p role num hs allowed
  have ⟨_, hoff, _, _⟩ := hs
  have hallowed (k : Byte) : allowed k.toNat ↔ roleAllows role k = true := (roleAllows_iff hoff k).symm
  refine ⟨fun r hr hl => ⟨_, exec_requestInstr hr s p num, fun hk => ?_, fun h1 h2 hn => ?_, ?_, ?_, ?_, fun h1 h2 ha hm hobs => ?_⟩,
    fun k fields hidle hf hread => ?_, fun k hk => ?_⟩
  · exact State.onlyAnswered_refused hs hl (portCheck_badKind (knownKind_eq_false hk)) (by simp)
  · exact State.onlyAnswered_refused hs hl (portCheck_role ((knownKind_iff _).mpr ⟨h1, h2⟩) (Bool.eq_false_iff.mpr fun h => hn ((hallowed _).mpr h)))
      (by simp)
  · rintro tag a obs rfl hrole hlong
    subst hrole
    exact State.onlyAnswered_refused hs hl (portCheck_badLength rfl rfl (decide_eq_false (Nat.not_le.mpr hlong))) (by simp)
  · rintro c f es rfl hrole hlong
    subst hrole
    exact State.onlyAnswered_refused hs hl (portCheck_badLength rfl rfl (listCount_refused hlong)) (by simp)
  · rintro es rfl hrole hlong
    subst hrole
    exact State.onlyAnswered_refused hs hl (portCheck_badLength rfl rfl (listCount_refused hlong)) (by simp)
  · have hc := portCheck_notLive (role := role) ((knownKind_iff r.kind).mpr ⟨by omega, h2⟩) ((hallowed _).mp ha)
      (Request.lengthFits_of_live hr h1 hobs) (by simp [needsLive, h1, h2])
    exact State.onlyAnswered_notLive hs hl (hm ▸ hc)
  · have hknown := knownKind_of_wrongLength hread
    have hlen : (Request.wrongLength k).len ≤ 160 := show 2 ≤ 160 by decide
    have harrive : s.receive p (frameChars (k :: num :: fields)) = s.arrive p num (.wrongLength k) := by
      rw [State.receive_frameChars hidle hs.hears hf, hread, State.arrive_hears hs.hears hlen, State.assembling_self hidle]
    refine ⟨_, congrArg went harrive, ?_⟩
    split
    next ha => exact State.onlyAnswered_refused hs hlen (portCheck_badLength hknown ((hallowed k).mp ha) rfl) (by simp)
    next ha =>
      exact State.onlyAnswered_refused hs hlen
        (portCheck_role hknown (Bool.eq_false_iff.mpr fun h => ha ((hallowed k).mpr h))) (by simp)
  · have hspelled : (Request.unknownKind k).spelled = true := by simp [Request.spelled, knownKind_eq_false hk]
    have hlen : (Request.unknownKind k).len ≤ 160 := show 2 ≤ 160 by decide
    exact ⟨_, exec_requestInstr hspelled s p num,
      State.onlyAnswered_refused hs hlen (portCheck_badKind (knownKind_eq_false hk)) (by simp)⟩

end Sys2Proof.Machine
end

section
/-! SUPPORT. What no operation reads: the queue, and, but for the line's own, the assemblers. A veil changes both, and each operation
commutes with it. -/

namespace Sys2Proof.Machine

/-- The state with other assemblers and another queue. -/
def State.veil (f : Port → Assembler → Assembler) (q : List Instr) (s : State) : State :=
  (s.updPorts fun p x => { x with assembler := f p x.assembler }).withPending q

section
variable {f : Port → Assembler → Assembler} {q : List Instr} {s : State}

/-! What reads the same behind a veil -/

theorem State.case?_veil (t : Tag) : (s.veil f q).case? t = s.case? t := rfl
theorem State.tote_veil (u : ToteNo) : (s.veil f q).tote u = s.tote u := rfl
theorem State.engine_veil : (s.veil f q).engine = s.engine := rfl
theorem State.gradingQueue_veil : (s.veil f q).gradingQueue = s.gradingQueue := rfl
theorem State.outbound_veil : (s.veil f q).outbound = s.outbound := rfl
theorem State.calendar_veil : (s.veil f q).calendar = s.calendar := rfl
theorem State.settings_veil : (s.veil f q).settings = s.settings := rfl
theorem State.errors_veil : (s.veil f q).errors = s.errors := rfl
theorem State.mode_veil : (s.veil f q).mode = s.mode := rfl
theorem State.stopped_veil : (s.veil f q).stopped = s.stopped := rfl
theorem State.firstWaiting_veil : (s.veil f q).firstWaiting = s.firstWaiting := rfl
theorem State.mapEntry_veil (cls : RouteClass) (c : Fin 16) : (s.veil f q).mapEntry cls c = s.mapEntry cls c := rfl

theorem State.port_veil (p : Port) : (s.veil f q).port p = { s.port p with assembler := f p (s.port p).assembler } := by
  rw [State.veil, State.port_withPending, State.port_updPorts]

theorem State.role_veil (p : Port) : ((s.veil f q).port p).role = (s.port p).role := by rw [State.port_veil]

/-- The veil of an identity is another queue alone. -/
theorem State.veil_id (s : State) (q : List Instr) : s.veil (fun _ a => a) q = s.withPending q :=
  congrArg (·.withPending q) s.updPorts_id

/-! Updates of the ports -/

/-- An update of the ports that leaves the assemblers and does not read them. -/
theorem State.updPorts_veil {g : Port → PortState → PortState}
    (h : ∀ p x a, g p { x with assembler := a } = { g p x with assembler := a })
    (ha : ∀ p x, (g p x).assembler = x.assembler) : (s.veil f q).updPorts g = (s.updPorts g).veil f q := by
  have hports : (s.updPorts fun p x => g p { x with assembler := f p x.assembler }) =
      s.updPorts fun p x => { g p x with assembler := f p (g p x).assembler } :=
    State.updPorts_congr s fun p => by rw [h, ha]
  exact congrArg (·.withPending q) hports

theorem State.updPort_veil {g : PortState → PortState} (p : Port) (h : ∀ x a, g { x with assembler := a } = { g x with assembler := a })
    (ha : ∀ x, (g x).assembler = x.assembler) : (s.veil f q).updPort p g = (s.updPort p g).veil f q :=
  State.updPorts_veil (fun p' x a => by split <;> [exact h x a; rfl]) fun p' x => by split <;> [exact ha x; rfl]

theorem State.raise_veil {who : Port → PortState → Bool} (hw : ∀ p x a, who p { x with assembler := a } = who p x) (c : Cause) (d : Detail) :
    (s.veil f q).raise who c d = (s.raise who c d).veil f q :=
  State.updPorts_veil (fun p x a => by rw [hw]; split <;> rfl) fun p x => by split <;> rfl

/-! Updates of what is not a port -/

theorem State.setCase_veil (t : Tag) (c : Case) : (s.veil f q).setCase t c = (s.setCase t c).veil f q := rfl
theorem State.setTote_veil (t : ToteNo) (k : Tote) : (s.veil f q).setTote t k = (s.setTote t k).veil f q := rfl
theorem State.withErrors_veil (x : ErrorCapture) : (s.veil f q).withErrors x = (s.withErrors x).veil f q := rfl
theorem State.withOutbound_veil (x : List DepartureRecord) : (s.veil f q).withOutbound x = (s.withOutbound x).veil f q := rfl
theorem State.withCases_veil (x : Store Case) : (s.veil f q).withCases x = (s.withCases x).veil f q := rfl
theorem State.withEngine_veil (x : Option Computation) : (s.veil f q).withEngine x = (s.withEngine x).veil f q := rfl
theorem State.withFreeCount_veil (x : Nat) : (s.veil f q).withFreeCount x = (s.withFreeCount x).veil f q := rfl

/-! Notices -/

theorem State.raiseAuditReady_veil (t : Tag) : (s.veil f q).raiseAuditReady t = (s.raiseAuditReady t).veil f q :=
  State.raise_veil (who := fun p _ => s.auditCapable p) (fun _ _ _ => rfl) ..

theorem State.raiseSwapDone_veil (t : ToteNo) : (s.veil f q).raiseSwapDone t = (s.raiseSwapDone t).veil f q :=
  State.raise_veil (who := toInductAndStock) (fun _ _ _ => rfl) ..

theorem State.raiseQuarantine_veil (t : Tag) (b : Option Band) : (s.veil f q).raiseQuarantine t b = (s.raiseQuarantine t b).veil f q := by
  unfold State.raiseQuarantine
  split_ifs
  · exact State.raise_veil (who := toStock) (fun _ _ _ => rfl) ..
  · rfl

theorem State.capture_veil (k : ErrorKind) (x : Port) (t : Option Tag) (o : Option ToteNo) :
    (s.veil f q).capture k x t o = (s.capture k x t o).veil f q := by
  unfold State.capture
  rw [State.errors_veil, State.settings_veil]
  by_cases hl : s.errors.locked = true
  · rw [if_pos hl, if_pos hl]
    by_cases he : s.settings.everyError = true
    · dsimp only
      rw [if_pos he, if_pos he, State.withErrors_veil, State.raise_veil (who := toStock) (fun _ _ _ => rfl)]
    · dsimp only
      rw [if_neg he, if_neg he]
      rfl
  · rw [if_neg hl, if_neg hl, State.withErrors_veil, State.raise_veil (who := toStock) (fun _ _ _ => rfl)]
    rfl

/-! The sweep's set -/

theorem State.sweepGoesOn_veil (set : List Tag) : (s.veil f q).sweepGoesOn set = (s.sweepGoesOn set).veil f q := by
  unfold State.sweepGoesOn
  split_ifs
  · exact State.raise_veil (f := f) (q := q) (s := s.withCalendar _) (who := toStock) (fun _ _ _ => rfl) ..
  · rfl

theorem State.leaveSweep_veil (t : Tag) : (s.veil f q).leaveSweep t = (s.leaveSweep t).veil f q := by
  unfold State.leaveSweep
  rw [State.calendar_veil]
  cases s.calendar.sweep with
  | none => rfl
  | some set =>
    dsimp only
    split_ifs
    · exact State.sweepGoesOn_veil _
    · rfl

theorem State.removeCase_veil (t : Tag) : (s.veil f q).removeCase t = (s.removeCase t).veil f q :=
  State.leaveSweep_veil (f := f) (q := q) (s := s.withCases (s.cases.erase t.toNat)) t

/-! Totes -/

theorem State.depart_veil (t : ToteNo) : (s.veil f q).depart t = (s.depart t).veil f q := by
  unfold State.depart
  rw [State.tote_veil, State.outbound_veil]
  dsimp only
  rw [State.withOutbound_veil, State.withCases_veil, State.setTote_veil, State.raiseSwapDone_veil]
  rfl

theorem State.completeDrain_veil (t : ToteNo) : (s.veil f q).completeDrain t = (s.completeDrain t).veil f q := by
  unfold State.completeDrain
  rw [State.tote_veil, State.outbound_veil]
  dsimp only
  split_ifs
  · rw [State.setTote_veil, State.raiseSwapDone_veil]
  · exact State.depart_veil t
  · rfl

theorem State.drainIfDone_veil (t : ToteNo) : (s.veil f q).drainIfDone t = (s.drainIfDone t).veil f q := by
  unfold State.drainIfDone
  rw [State.tote_veil]
  dsimp only
  split_ifs
  · exact State.completeDrain_veil t
  · rfl

theorem State.handPlace_veil : (s.veil f q).handPlace = s.handPlace.veil f q := by
  unfold State.handPlace
  rw [State.outbound_veil, State.firstWaiting_veil]
  split_ifs
  · cases s.firstWaiting with
    | none => rfl
    | some t => exact State.depart_veil t
  · rfl

theorem State.removeFromManifest_veil (t : ToteNo) (tag : Tag) :
    (s.veil f q).removeFromManifest t tag = (s.removeFromManifest t tag).veil f q := by
  unfold State.removeFromManifest
  rw [State.tote_veil]
  dsimp only
  split_ifs
  · exact State.raiseSwapDone_veil (f := f) (q := q) (s := s.setTote t _) t
  · rfl

theorem State.leaveTote_veil (loc : Location) (tag : Tag) : (s.veil f q).leaveTote loc tag = (s.leaveTote loc tag).veil f q := by
  cases loc with
  | inTote t => exact State.removeFromManifest_veil t tag
  | none => rfl
  | departed => rfl

/-! Holds and reservations -/

theorem State.announceReturn_veil (t : Tag) (b : CaseState) : (s.veil f q).announceReturn t b = (s.announceReturn t b).veil f q := by
  unfold State.announceReturn
  split_ifs
  · exact State.raiseAuditReady_veil t
  · rfl

theorem State.releaseHold_veil (t : Tag) : (s.veil f q).releaseHold t = (s.releaseHold t).veil f q := by
  unfold State.releaseHold
  rw [State.case?_veil]
  cases s.case? t with
  | none => rfl
  | some c => exact State.announceReturn_veil (f := f) (q := q) (s := s.setCase t _) t c.state

theorem State.lapseHold_veil (t : Tag) (c : Case) (h : Hold) : (s.veil f q).lapseHold t c h = (s.lapseHold t c h).veil f q := by
  unfold State.lapseHold
  dsimp only
  rw [State.setCase_veil, State.announceReturn_veil, State.capture_veil]
  exact State.raise_veil (who := toPortAndStock h.port) (fun _ _ _ => rfl) ..

theorem State.takeHoldLapse_veil (t : Tag) : (s.veil f q).takeHoldLapse t = (s.takeHoldLapse t).veil f q := by
  unfold State.takeHoldLapse
  rw [State.case?_veil]
  cases s.case? t with
  | none => rfl
  | some c =>
    dsimp only
    cases c.holder with
    | none => rfl
    | some h =>
      dsimp only
      split_ifs
      · exact State.lapseHold_veil t c h
      · rfl

theorem State.lapseDwell_veil (t : Tag) (c : Case) (r : Reservation) : (s.veil f q).lapseDwell t c r = (s.lapseDwell t c r).veil f q := by
  unfold State.lapseDwell
  rw [State.tote_veil, State.setTote_veil]
  dsimp only
  rw [State.setCase_veil, State.raise_veil (who := toInduct) (fun _ _ _ => rfl), State.drainIfDone_veil]

theorem State.takeDwellLapse_veil (t : Tag) : (s.veil f q).takeDwellLapse t = (s.takeDwellLapse t).veil f q := by
  unfold State.takeDwellLapse
  rw [State.case?_veil, State.stopped_veil]
  cases s.case? t with
  | none => rfl
  | some c =>
    dsimp only
    cases c.reservation with
    | none => rfl
    | some r =>
      dsimp only
      split_ifs
      · exact State.lapseDwell_veil t c r
      · rfl

/-! Free orders -/

theorem inFreeOrder_veil {act : Tag → State → State} (ha : ∀ t (s : State), act t (s.veil f q) = (act t s).veil f q) :
    ∀ (n : Nat) (l : List Tag) (s : State), inFreeOrder act n l (s.veil f q) = (inFreeOrder act n l s).veil f q
  | 0, _, _ => by rw [inFreeOrder, inFreeOrder]
  | _ + 1, [], _ => by rw [inFreeOrder, inFreeOrder]
  | _ + 1, [t], s => ha t s
  | n + 1, a :: b :: l, s => by
    rw [inFreeOrder, inFreeOrder]
    · rw [show (s.veil f q).freeCount = s.freeCount from rfl]
      cases pickAt (a :: b :: l) (Config.freeChoice s.freeCount % (a :: b :: l).length) with
      | none => rfl
      | some x =>
        dsimp only
        rw [State.withFreeCount_veil, ha, inFreeOrder_veil ha n]
    all_goals simp

theorem State.releaseHoldsOf_veil (p : Port) : (s.veil f q).releaseHoldsOf p = (s.releaseHoldsOf p).veil f q :=
  inFreeOrder_veil (fun t _ => State.releaseHold_veil t) ..

theorem State.settleLapses_veil : (s.veil f q).settleLapses = s.settleLapses.veil f q :=
  inFreeOrder_veil (fun t _ => by rw [State.takeHoldLapse_veil, State.takeDwellLapse_veil]) ..

/-! The calendar and the STOP line -/

theorem State.tick_veil : (s.veil f q).tick = s.tick.veil f q := by
  unfold State.tick
  rw [State.settleLapses_veil]
  dsimp only
  rw [State.calendar_veil]
  split_ifs
  · exact State.sweepGoesOn_veil (f := f) (q := q) (s := (s.settleLapses.withCalendar _).withCases _) _
  · rfl

theorem State.visit_veil (t : Tag) : (s.veil f q).visit t = (s.visit t).veil f q := by
  unfold State.visit
  rw [State.calendar_veil, State.case?_veil]
  cases s.calendar.sweep with
  | none => rfl
  | some set =>
    dsimp only
    split_ifs
    · cases s.case? t with
      | none => exact State.leaveSweep_veil t
      | some c =>
        dsimp only
        rw [show (s.veil f q).today = s.today from rfl, State.settings_veil]
        split_ifs
        · rw [State.setCase_veil, State.raise_veil (who := toStock) (fun _ _ _ => rfl), State.leaveSweep_veil]
        · exact State.leaveSweep_veil t
    · rfl

theorem State.stopRises_veil : (s.veil f q).stopRises = s.stopRises.veil f q :=
  State.raise_veil (f := f) (q := q) (s := (s.withStopped true).withCases _) (who := toInductAndStock) (fun _ _ _ => rfl) ..

theorem State.stopFalls_veil : (s.veil f q).stopFalls = s.stopFalls.veil f q :=
  State.raise_veil (f := f) (q := q) (s := (s.withStopped false).withCases _) (who := toInductAndStock) (fun _ _ _ => rfl) ..

/-! The engine -/

theorem State.startComputation_veil : (s.veil f q).startComputation = s.startComputation.veil f q := by
  unfold State.startComputation
  rw [State.engine_veil, State.gradingQueue_veil]
  cases s.engine with
  | some k => rfl
  | none =>
    cases s.gradingQueue with
    | nil => rfl
    | cons sub rest =>
      dsimp only
      rw [State.case?_veil]
      cases s.case? sub.tag with
      | none => rfl
      | some c => rfl

theorem State.replyGrade_veil (p : Port) (r : GradeResult) : (s.veil f q).replyGrade p r = (s.replyGrade p r).veil f q := by
  refine State.updPort_veil p (fun x a => ?_) fun x => ?_
  · dsimp only
    split
    · split_ifs <;> rfl
    · rfl
  · split
    · split_ifs <;> rfl
    · rfl

theorem State.completeFirst_veil (k : Computation) : (s.veil f q).completeFirst k = (s.completeFirst k).veil f q := by
  unfold State.completeFirst
  dsimp only
  rw [State.case?_veil]
  cases s.case? k.submission.tag with
  | none => rfl
  | some c =>
    dsimp only
    rw [← State.startComputation_veil, ← State.withEngine_veil, ← State.replyGrade_veil, ← State.raiseQuarantine_veil]
    rfl

theorem State.completeAudit_veil (k : Computation) : (s.veil f q).completeAudit k = (s.completeAudit k).veil f q := by
  unfold State.completeAudit
  dsimp only
  rw [State.case?_veil]
  cases s.case? k.submission.tag with
  | none => rfl
  | some c =>
    dsimp only
    cases c.firstGrade with
    | none => rfl
    | some first =>
      dsimp only
      rw [← State.startComputation_veil, ← State.withEngine_veil, ← State.replyGrade_veil, ← State.raiseQuarantine_veil]
      split_ifs
      · rw [← State.raise_veil (who := toStock) (fun _ _ _ => rfl)]
        rfl
      · rfl

end

end Sys2Proof.Machine
end

section
/-! SUPPORT. Each request behind a veil: the same answer, and the same state behind the veil. -/

namespace Sys2Proof.Machine

/-- An answer with its state behind a veil. -/
def veiled {α : Type} (f : Port → Assembler → Assembler) (q : List Instr) (x : State × α) : State × α := (x.1.veil f q, x.2)

section
variable {f : Port → Assembler → Assembler} {q : List Instr} {s : State}

/-! The case table -/

theorem takeExpectReturn_veil (a : Announcement) : takeExpectReturn a (s.veil f q) = veiled f q (takeExpectReturn a s) := by
  unfold takeExpectReturn
  rw [State.case?_veil, show (s.veil f q).cases = s.cases from rfl]
  cases s.case? a.tag with
  | some c =>
    dsimp only
    split_ifs <;> rfl
  | none =>
    dsimp only
    split_ifs <;> rfl

theorem takeCancelReturn_veil (t : Tag) : takeCancelReturn t (s.veil f q) = veiled f q (takeCancelReturn t s) := by
  unfold takeCancelReturn
  rw [State.case?_veil]
  cases s.case? t with
  | none => rfl
  | some c =>
    dsimp only
    split_ifs
    · rw [State.removeCase_veil]; rfl
    · rfl

theorem takeReviveCase_veil (t : Tag) : takeReviveCase t (s.veil f q) = veiled f q (takeReviveCase t s) := by
  unfold takeReviveCase
  rw [State.case?_veil]
  cases s.case? t with
  | none => rfl
  | some c =>
    dsimp only
    split_ifs <;> rfl

theorem takeFetchCase_veil (p : Port) (t : Tag) : takeFetchCase p t (s.veil f q) = veiled f q (takeFetchCase p t s) := by
  unfold takeFetchCase
  rw [State.case?_veil, State.role_veil]
  cases s.case? t <;> rfl

theorem takeCloseCase_veil (t : Tag) : takeCloseCase t (s.veil f q) = veiled f q (takeCloseCase t s) := by
  unfold takeCloseCase
  rw [State.case?_veil]
  cases s.case? t with
  | none => rfl
  | some c =>
    dsimp only
    split_ifs
    · rw [State.removeCase_veil]; rfl
    · rfl

theorem takeForceDisposition_veil (t : Tag) (band gate : Byte) :
    takeForceDisposition t band gate (s.veil f q) = veiled f q (takeForceDisposition t band gate s) := by
  unfold takeForceDisposition
  rw [State.case?_veil]
  cases readBand band with
  | none => rfl
  | some bd =>
    cases readGate gate with
    | none => rfl
    | some g =>
      cases s.case? t with
      | none => rfl
      | some c =>
        dsimp only
        split_ifs
        · rw [State.setCase_veil, State.leaveTote_veil]; rfl
        · rfl

/-! Tables and settings -/

theorem State.categoryInUse_veil (c : Nat) : (s.veil f q).categoryInUse c = s.categoryInUse c := rfl

theorem takeWriteWeights_veil (c first : Byte) (es : List WeightWrite) :
    takeWriteWeights c first es (s.veil f q) = veiled f q (takeWriteWeights c first es s) := by
  unfold takeWriteWeights
  rw [State.categoryInUse_veil]
  split_ifs <;> rfl

theorem takeWriteCategory_veil (c : Byte) (w : CategoryWrite) :
    takeWriteCategory c w (s.veil f q) = veiled f q (takeWriteCategory c w s) := by
  unfold takeWriteCategory
  rw [State.categoryInUse_veil]
  cases readStep w.step with
  | none =>
    dsimp only
    split_ifs <;> rfl
  | some step =>
    dsimp only
    split_ifs <;> rfl

theorem takeWriteToteMap_veil (es : List MapWrite) : takeWriteToteMap es (s.veil f q) = veiled f q (takeWriteToteMap es s) := by
  unfold takeWriteToteMap
  split_ifs <;> rfl

theorem takeReseedSampler_veil (x : BitVec 16) : takeReseedSampler x (s.veil f q) = veiled f q (takeReseedSampler x s) := by
  unfold takeReseedSampler
  split_ifs <;> rfl

theorem State.storedSettings_veil (w : SettingsWrite) : (s.veil f q).storedSettings w = s.storedSettings w := by
  have hbench : (s.veil f q).isBench = s.isBench := funext fun p => by rw [State.isBench, State.role_veil, State.isBench]
  unfold State.storedSettings State.benchPorts
  rw [hbench]

theorem takeWriteSettings_veil (w : SettingsWrite) : takeWriteSettings w (s.veil f q) = veiled f q (takeWriteSettings w s) := by
  unfold takeWriteSettings
  rw [State.storedSettings_veil]
  rfl

theorem takeGoConfig_veil : takeGoConfig (s.veil f q) = veiled f q (takeGoConfig s) := by
  unfold takeGoConfig
  rw [show (s.veil f q).submissions = s.submissions from rfl]
  split_ifs <;> rfl

theorem takeClearFloor_veil : takeClearFloor (s.veil f q) = veiled f q (takeClearFloor s) := by
  unfold takeClearFloor
  rw [State.mode_veil, State.calendar_veil]
  split_ifs <;> rfl

theorem takeSetClock_veil (w : ClockWrite) : takeSetClock w (s.veil f q) = veiled f q (takeSetClock w s) := by
  unfold takeSetClock
  rw [State.calendar_veil]
  split_ifs <;> rfl

/-! Notices and the line -/

theorem takeQueryNotice_veil (p : Port) : takeQueryNotice p (s.veil f q) = veiled f q (takeQueryNotice p s) := by
  unfold takeQueryNotice
  rw [State.port_veil]
  dsimp only
  rw [show PortState.firstCall { s.port p with assembler := f p (s.port p).assembler } = (s.port p).firstCall from rfl]
  cases (s.port p).firstCall with
  | none => rfl
  | some c =>
    exact Prod.ext (State.updPort_veil (g := fun y => y.cleared c) p (fun _ _ => rfl) fun _ => rfl) rfl

theorem takeSetNoticeMask_veil (p : Port) (m : BitVec 12) : takeSetNoticeMask p m (s.veil f q) = veiled f q (takeSetNoticeMask p m s) := by
  unfold takeSetNoticeMask
  rw [State.port_veil]
  exact Prod.ext (State.updPort_veil (g := fun y => PortState.refreshAttn { y with enabled := m }) p (fun _ _ => rfl) fun _ => rfl) rfl

theorem takeQueryLine_veil (p : Port) : takeQueryLine p (s.veil f q) = veiled f q (takeQueryLine p s) := by
  unfold takeQueryLine
  rw [State.port_veil]
  exact Prod.ext (State.updPort_veil (g := fun y => { y with line := .clear }) p (fun _ _ => rfl) fun _ => rfl) rfl

/-! Bench holds -/

theorem claimHeld_veil (p : Port) (t : Tag) (c : Case) : claimHeld p t c (s.veil f q) = veiled f q (claimHeld p t c s) := by
  unfold claimHeld
  cases c.holder with
  | none => rfl
  | some h =>
    dsimp only
    split_ifs <;> rfl

theorem claimAudit_veil (p : Port) (t : Tag) (c : Case) : claimAudit p t c (s.veil f q) = veiled f q (claimAudit p t c s) := by
  unfold claimAudit
  rw [show (s.veil f q).auditCapable p = s.auditCapable p from rfl, State.setCase_veil, State.leaveTote_veil]
  split_ifs <;> rfl

theorem takeClaimCase_veil (p : Port) (t : Tag) : takeClaimCase p t (s.veil f q) = veiled f q (takeClaimCase p t s) := by
  unfold takeClaimCase
  rw [State.case?_veil]
  cases s.case? t with
  | none => rfl
  | some c =>
    dsimp only
    cases c.state with
    | onBench => exact claimHeld_veil p t c
    | onAudit => exact claimHeld_veil p t c
    | auditWait => exact claimAudit_veil p t c
    | _ => rfl

theorem takeReleaseCase_veil (p : Port) (t : Tag) : takeReleaseCase p t (s.veil f q) = veiled f q (takeReleaseCase p t s) := by
  unfold takeReleaseCase
  rw [State.case?_veil, State.releaseHold_veil]
  cases s.case? t with
  | none => rfl
  | some c =>
    dsimp only
    split_ifs <;> rfl

theorem State.enqueue_veil (p : Port) (t : Tag) (c : Case) (a : Attributes) (obs : List Observation) :
    (s.veil f q).enqueue p t c a obs = (s.enqueue p t c a obs).veil f q := by
  unfold State.enqueue
  rw [← State.startComputation_veil]
  rfl

theorem takeSubmitGrade_veil (p : Port) (t : Tag) (a : Attributes) (obs : List Observation) :
    takeSubmitGrade p t a obs (s.veil f q) = veiled f q (takeSubmitGrade p t a obs s) := by
  unfold takeSubmitGrade
  rw [State.case?_veil, show (s.veil f q).portHasSubmission p = s.portHasSubmission p from rfl]
  cases s.case? t with
  | none => rfl
  | some c =>
    dsimp only
    rw [State.enqueue_veil]
    split_ifs <;> rfl

/-! Routing and totes -/

theorem routeGraded_veil (p : Port) (t : Tag) (c : Case) (cls : RouteClass) :
    routeGraded p t c cls (s.veil f q) = veiled f q (routeGraded p t c cls s) := by
  unfold routeGraded
  rw [State.mapEntry_veil]
  cases s.mapEntry cls c.category with
  | none =>
    dsimp only
    rw [State.capture_veil]
    rfl
  | some first =>
    dsimp only
    rw [State.tote_veil, State.capture_veil, show (s.veil f q).tote = s.tote from rfl]
    split_ifs
    · rfl
    · cases walk s.tote Config.walkLimit first <;> rfl

theorem takeRouteQuery_veil (p : Port) (t : Tag) : takeRouteQuery p t (s.veil f q) = veiled f q (takeRouteQuery p t s) := by
  unfold takeRouteQuery
  rw [State.stopped_veil, State.case?_veil]
  split_ifs
  · rfl
  · cases s.case? t with
    | none => rfl
    | some c =>
      dsimp only
      split
      · rfl
      · exact routeGraded_veil p t c _
      · rfl

theorem State.ite_veil {c : Prop} [Decidable c] (a b : State) :
    (if c then a.veil f q else b.veil f q) = (if c then a else b).veil f q := by split_ifs <;> rfl

theorem State.place_veil (t : Tag) (c : Case) (u : ToteNo) : (s.veil f q).place t c u = (s.place t c u).veil f q := by
  unfold State.place
  dsimp only
  rw [State.tote_veil, State.setTote_veil, State.setCase_veil, State.raiseAuditReady_veil, State.ite_veil,
    State.raise_veil (who := toInductAndStock) (fun _ _ _ => rfl), State.ite_veil, State.drainIfDone_veil]

theorem takeConfirmPlacement_veil (p : Port) (t : Tag) (u : ToteNo) :
    takeConfirmPlacement p t u (s.veil f q) = veiled f q (takeConfirmPlacement p t u s) := by
  unfold takeConfirmPlacement
  rw [State.case?_veil, State.tote_veil]
  cases s.case? t with
  | none => rfl
  | some c =>
    dsimp only
    rw [State.place_veil, State.capture_veil, State.capture_veil]
    split
    · split_ifs <;> rfl
    · split_ifs <;> rfl
    · rfl

theorem takeCancelRoute_veil (t : Tag) : takeCancelRoute t (s.veil f q) = veiled f q (takeCancelRoute t s) := by
  unfold takeCancelRoute
  rw [State.case?_veil]
  cases s.case? t with
  | none => rfl
  | some c =>
    dsimp only
    split
    · rw [State.tote_veil, State.setTote_veil, State.setCase_veil, State.drainIfDone_veil]
      rfl
    · rfl

theorem takeWriteTote_veil (w : ToteWrite) : takeWriteTote w (s.veil f q) = veiled f q (takeWriteTote w s) := by
  unfold takeWriteTote
  rw [State.tote_veil]
  dsimp only
  cases writeToteCheck w (s.tote w.tote) with
  | some st => rfl
  | none =>
    dsimp only
    rw [State.setTote_veil]
    split_ifs
    · rw [State.raise_veil (who := toInductAndStock) (fun _ _ _ => rfl)]
      rfl
    · rfl

theorem takeToteSwap_veil (t : ToteNo) : takeToteSwap t (s.veil f q) = veiled f q (takeToteSwap t s) := by
  unfold takeToteSwap
  rw [State.tote_veil]
  dsimp only
  rw [State.setTote_veil, State.drainIfDone_veil]
  cases (s.tote t).state <;> rfl

theorem takeTakeManifest_veil : takeTakeManifest (s.veil f q) = veiled f q (takeTakeManifest s) := by
  unfold takeTakeManifest
  rw [State.outbound_veil]
  cases s.outbound with
  | nil => rfl
  | cons r rest =>
    dsimp only
    rw [State.withOutbound_veil, State.handPlace_veil]
    rfl

/-! The slots -/

theorem takeRequest_veil (p : Port) (r : Request) : takeRequest p r (s.veil f q) = veiled f q (takeRequest p r s) := by
  cases r with
  | fetchCase t => exact congrArg ready (takeFetchCase_veil p t)
  | queryNotice => exact congrArg ready (takeQueryNotice_veil p)
  | setNoticeMask m => exact congrArg ready (takeSetNoticeMask_veil p m)
  | queryLine => exact congrArg ready (takeQueryLine_veil p)
  | expectReturn a => exact congrArg ready (takeExpectReturn_veil a)
  | cancelReturn t => exact congrArg ready (takeCancelReturn_veil t)
  | reviveCase t => exact congrArg ready (takeReviveCase_veil t)
  | closeCase t => exact congrArg ready (takeCloseCase_veil t)
  | forceDisposition t bd g => exact congrArg ready (takeForceDisposition_veil t bd g)
  | writeWeights c first es => exact congrArg ready (takeWriteWeights_veil c first es)
  | writeCategory c w => exact congrArg ready (takeWriteCategory_veil c w)
  | writeToteMap es => exact congrArg ready (takeWriteToteMap_veil es)
  | writeTote w => exact congrArg ready (takeWriteTote_veil w)
  | takeManifest => exact congrArg ready takeTakeManifest_veil
  | setClock w => exact congrArg ready (takeSetClock_veil w)
  | reseedSampler x => exact congrArg ready (takeReseedSampler_veil x)
  | writeSettings w => exact congrArg ready (takeWriteSettings_veil w)
  | goConfig => exact congrArg ready takeGoConfig_veil
  | clearFloor => exact congrArg ready takeClearFloor_veil
  | claimCase t => exact congrArg ready (takeClaimCase_veil p t)
  | submitGrade t a obs => exact takeSubmitGrade_veil p t a obs
  | releaseCase t => exact congrArg ready (takeReleaseCase_veil p t)
  | routeQuery t => exact congrArg ready (takeRouteQuery_veil p t)
  | confirmPlacement t u => exact congrArg ready (takeConfirmPlacement_veil p t u)
  | cancelRoute t => exact congrArg ready (takeCancelRoute_veil t)
  | toteSwap t => exact congrArg ready (takeToteSwap_veil t)
  | _ => rfl

theorem answerRequest_veil (p : Port) (r : Request) : answerRequest p r (s.veil f q) = veiled f q (answerRequest p r s) := by
  unfold answerRequest
  rw [State.role_veil, State.mode_veil]
  cases portCheck (s.port p).role s.mode r with
  | some st => rfl
  | none => exact takeRequest_veil p r

/-- A request handed on does the same behind a veil. -/
theorem State.handOn_veil (p : Port) (num : Byte) (r : Request) : (s.veil f q).handOn p num r = (s.handOn p num r).veil f q := by
  unfold State.handOn
  dsimp only
  rw [State.updPort_veil (g := fun x => { x with service := some { num := num, request := r, reply := none } }) p (fun _ _ => rfl)
    fun _ => rfl, answerRequest_veil]
  rcases answerRequest p r _ with ⟨t, a⟩
  cases a with
  | none => rfl
  | some a => exact State.updPort_veil p (fun _ _ => rfl) fun _ => rfl

end

end Sys2Proof.Machine
end

section
/-! SUPPORT. No command looks at the queue or touches it. -/

namespace Sys2Proof.Machine

/-- An operation that neither looks at the queue nor touches it. -/
def OverlooksQueue (op : State → State) : Prop := ∀ (s : State) (q : List Instr), op (s.withPending q) = (op s).withPending q

namespace OverlooksQueue

/-- What commutes with the veil that changes the queue alone overlooks the queue. -/
theorem of_veil {op : State → State} (h : ∀ (s : State) (q : List Instr), op (s.veil (fun _ a => a) q) = (op s).veil (fun _ a => a) q) :
    OverlooksQueue op := fun s q => by rw [← State.veil_id, h, State.veil_id]

theorem keeps_pending {op : State → State} (h : OverlooksQueue op) (s : State) : (op s).pending = s.pending := by
  have hself : op s = (op s).withPending s.pending := h s s.pending
  rw [hself]
  rfl

theorem same : OverlooksQueue fun s => s := fun _ _ => rfl

theorem comp {op after : State → State} (h' : OverlooksQueue after) (h : OverlooksQueue op) : OverlooksQueue fun s => after (op s) :=
  fun s q => (congrArg after (h s q)).trans (h' (op s) q)

theorem ite {c : State → Prop} [DecidablePred c] {op op' : State → State} (hc : ∀ s q, c (State.withPending s q) ↔ c s)
    (h : OverlooksQueue op) (h' : OverlooksQueue op') : OverlooksQueue fun s => if c s then op s else op' s := fun s q => by
  dsimp only
  rw [h, h']
  by_cases hs : c s
  · rw [if_pos hs, if_pos ((hc s q).mpr hs)]
  · rw [if_neg hs, if_neg fun hq => hs ((hc s q).mp hq)]

/-- A command that runs such an operation is as O2 says. -/
theorem settles {op : State → State} (h : OverlooksQueue op) {c : Instr} (hc : ∀ s, exec c s = .next (op s)) (s : State) (q : List Instr) :
    ∃ t, exec c s = .next t ∧ t.pending = s.pending ∧ exec c (s.withPending q) = .next (t.withPending q) :=
  ⟨op s, hc s, h.keeps_pending s, by rw [hc, h]⟩

end OverlooksQueue

/-! The ports -/

section
variable {p : Port} {num : Byte} {r : Request}

theorem State.overrun_overlooks : OverlooksQueue fun s => s.overrun p :=
  .comp (.of_veil (op := fun s => s.capture .portOverrun p none none) fun _ _ => State.capture_veil ..)
    (op := fun s => s.lineFault p LineStatus.setOverrun) fun _ _ => rfl

theorem State.handOn_overlooks : OverlooksQueue fun s => s.handOn p num r := .of_veil fun _ _ => State.handOn_veil ..

theorem State.acceptFrame_overlooks : OverlooksQueue fun s => s.acceptFrame p num r := fun s q => by
  dsimp only
  unfold State.acceptFrame
  rw [State.port_withPending]
  cases (s.port p).service with
  | none => exact State.handOn_overlooks s q
  | some x =>
    cases (s.port p).waiting with
    | none => rfl
    | some y => exact State.overrun_overlooks s q

theorem State.arrive_overlooks : OverlooksQueue fun s => s.arrive p num r :=
  .ite (fun _ _ => Iff.rfl) .same <| .ite (fun _ _ => Iff.rfl) (fun _ _ => rfl) <|
    .comp State.acceptFrame_overlooks (op := fun s => s.updPort p fun x => { x with assembler := .idle }) fun _ _ => rfl

theorem State.faultEvent_overlooks {flag : LineStatus → LineStatus} : OverlooksQueue fun s => s.faultEvent p flag :=
  .ite (fun _ _ => Iff.rfl) .same fun _ _ => rfl

theorem State.receiveChar_overlooks {ch : Byte} : OverlooksQueue fun s => s.receiveChar p ch := fun s q => by
  dsimp only
  unfold State.receiveChar
  rw [State.port_withPending]
  dsimp only
  by_cases hd : (s.port p).deaf = true
  · rw [if_pos hd, if_pos hd]
  · rw [if_neg hd, if_neg hd]
    cases (s.port p).assembler with
    | idle =>
      dsimp only
      split_ifs <;> rfl
    | synced =>
      dsimp only
      split_ifs <;> rfl
    | body len got =>
      dsimp only
      split
      · rfl
      · split
        · split
          · exact State.acceptFrame_overlooks (s.updPort p fun y => { y with assembler := .idle }) q
          · rfl
        · rfl

theorem State.receive_overlooks (chars : List Byte) : OverlooksQueue fun s => s.receive p chars := by
  induction chars with
  | nil => exact .same
  | cons ch chars ih =>
    simp only [State.receive_cons]
    exact ih.comp State.receiveChar_overlooks

theorem State.replyLeaves_overlooks : OverlooksQueue fun s => s.replyLeaves p := fun s q => by
  dsimp only
  unfold State.replyLeaves
  rw [State.port_withPending]
  split
  · split
    · rfl
    · exact State.handOn_overlooks (s.updPort p fun x => { x with service := none, waiting := none }) q
  · rfl

theorem State.portBreak_overlooks : OverlooksQueue fun s => s.portBreak p :=
  .ite (fun _ _ => Iff.rfl) .same <|
    .comp (.of_veil (op := fun s => s.releaseHoldsOf p) fun _ _ => State.releaseHoldsOf_veil p) (op := fun s => s.updPort p PortState.broken)
      fun _ _ => rfl

end

/-! The engine -/

/-- The completion of a computation of one kind. -/
theorem completion_overlooks {kind : GradeKind} {complete : State → Computation → State} (h : ∀ k, OverlooksQueue fun s => complete s k) :
    OverlooksQueue fun s => match s.engine with
      | some k => if k.submission.kind = kind then complete s k else s
      | none => s := fun s q => by
  dsimp only
  rw [State.withPending_engine]
  cases s.engine with
  | none => rfl
  | some k =>
    dsimp only
    split_ifs
    · exact h k s q
    · rfl

/-- Settles O2, command by command: each runs one operation, and none of these looks at the queue. -/
theorem execLeavesTheQueue : Obligations.ExecLeavesTheQueue := by
  intro c
  cases c with
  | badKindRequest p num k =>
    exact OverlooksQueue.settles (op := fun s => if knownKind k then s else s.arrive p num (.unknownKind k))
      (.ite (fun _ _ => Iff.rfl) .same State.arrive_overlooks) fun _ => rfl
  | secondEvent => exact OverlooksQueue.settles (op := State.tick) (.of_veil fun _ _ => State.tick_veil) fun _ => rfl
  | holdLapse t => exact OverlooksQueue.settles (op := fun s => s.takeHoldLapse t) (.of_veil fun _ _ => State.takeHoldLapse_veil t) fun _ => rfl
  | dwellLapse t => exact OverlooksQueue.settles (op := fun s => s.takeDwellLapse t) (.of_veil fun _ _ => State.takeDwellLapse_veil t) fun _ => rfl
  | midnightRollover =>
    exact OverlooksQueue.settles (op := fun s => if s.calendar.beforeMidnight then s.tick else s)
      (.ite (fun _ _ => Iff.rfl) (.of_veil fun _ _ => State.tick_veil) .same) fun _ => rfl
  | sweepVisit t => exact OverlooksQueue.settles (op := fun s => s.visit t) (.of_veil fun _ _ => State.visit_veil t) fun _ => rfl
  | stopRise =>
    exact OverlooksQueue.settles (op := fun s => if s.stopped then s else s.stopRises)
      (.ite (fun _ _ => Iff.rfl) .same (.of_veil fun _ _ => State.stopRises_veil)) fun _ => rfl
  | stopFall =>
    exact OverlooksQueue.settles (op := fun s => if s.stopped then s.stopFalls else s)
      (.ite (fun _ _ => Iff.rfl) (.of_veil fun _ _ => State.stopFalls_veil) .same) fun _ => rfl
  | deviceReset roles rate stop =>
    exact OverlooksQueue.settles (op := fun s => ((State.afterReset roles rate stop).withFreeCount s.freeCount).withPending s.pending)
      (fun _ _ => rfl) fun _ => rfl
  | portReset p => exact State.portBreak_overlooks.settles fun _ => rfl
  | computationStart => exact OverlooksQueue.settles (op := State.startComputation) (.of_veil fun _ _ => State.startComputation_veil) fun _ => rfl
  | firstGradeCompletion => exact (completion_overlooks fun k => .of_veil fun _ _ => State.completeFirst_veil k).settles fun _ => rfl
  | auditGradeCompletion => exact (completion_overlooks fun k => .of_veil fun _ _ => State.completeAudit_veil k).settles fun _ => rfl
  | drainCompletion u => exact OverlooksQueue.settles (op := fun s => s.drainIfDone u) (.of_veil fun _ _ => State.drainIfDone_veil u) fun _ => rfl
  | waitingToteDeparture => exact OverlooksQueue.settles (op := State.handPlace) (.of_veil fun _ _ => State.handPlace_veil) fun _ => rfl
  | goodFrame p chars => exact (State.receive_overlooks chars).settles fun _ => rfl
  | replySent p => exact State.replyLeaves_overlooks.settles fun _ => rfl
  | gapTimeout p late => exact (OverlooksQueue.comp State.receiveChar_overlooks State.faultEvent_overlooks).settles fun _ => rfl
  | portOverrun p => exact (OverlooksQueue.ite (fun _ _ => Iff.rfl) State.overrun_overlooks .same).settles fun _ => rfl
  | lineReturnToMark p =>
    exact OverlooksQueue.settles (op := fun s => s.updPort p fun x => { x with inBreak := false }) (fun _ _ => rfl) fun _ => rfl
  | parityError p | framingError p | checkError p | lengthError p => exact State.faultEvent_overlooks.settles fun _ => rfl
  | _ => exact State.arrive_overlooks.settles fun _ => rfl

end Sys2Proof.Machine
end

section
/-! SUPPORT. The request slots of a port: waiting, overrun, and the reply that frees the service slot. -/

namespace Sys2Proof.Machine

section
variable {s : State} {p : Port} {num k : Byte} {r : Request} {a : Assembler}

/-! A good frame at the slots -/

theorem State.acceptFrame_serves (hs : (s.port p).service = none) : s.acceptFrame p num r = s.handOn p num r := by
  rw [State.acceptFrame, hs]

theorem State.acceptFrame_waits (hs : (s.port p).service ≠ none) (hw : (s.port p).waiting = none) :
    s.acceptFrame p num r = s.updPort p fun x => { x with waiting := some { num := num, request := r } } := by
  obtain ⟨x, hx⟩ := Option.ne_none_iff_exists'.mp hs
  rw [State.acceptFrame, hx, hw]

theorem State.acceptFrame_overruns (hs : (s.port p).service ≠ none) (hw : (s.port p).waiting ≠ none) :
    s.acceptFrame p num r = s.overrun p := by
  obtain ⟨x, hx⟩ := Option.ne_none_iff_exists'.mp hs
  obtain ⟨y, hy⟩ := Option.ne_none_iff_exists'.mp hw
  rw [State.acceptFrame, hx, hy]

theorem State.service_assembling : ((s.assembling p a).port p).service = (s.port p).service := by rw [State.port_assembling_self]

theorem State.waiting_assembling : ((s.assembling p a).port p).waiting = (s.port p).waiting := by rw [State.port_assembling_self]

theorem State.overrun_assembling : (s.assembling p a).overrun p = s.overrun p := by
  rw [State.overrun, State.lineFault_assembling, State.overrun]

/-- What an update of one port leaves. -/
theorem State.updPort_does {u : State} {g : PortState → PortState} {x : PortState} (h : u = s.updPort p g) (hg : g (s.port p) = x) :
    u = s.withPorts u.ports ∧ (∀ q, q ≠ p → u.port q = s.port q) ∧ u.port p = x := by
  subst h
  exact ⟨rfl, fun q hq => by rw [State.port_updPort, if_neg hq], by rw [State.port_updPort, if_pos rfl, hg]⟩

/-- What an overrun leaves (R164). -/
theorem State.overrun_does (s : State) (p : Port) :
    (s.overrun p).errors = s.errorsAfter .portOverrun p none none ∧
      (∀ q, q ≠ p → (s.overrun p).port q =
        { s.port q with notices := ((s.overrun p).port q).notices, attn := ((s.overrun p).port q).attn }) ∧
      (s.overrun p).port p =
        { s.port p with line := { (s.port p).line with overrun := true }, assembler := .idle,
                        notices := ((s.overrun p).port p).notices, attn := ((s.overrun p).port p).attn } ∧
      (∀ q e, (e = .errorCaptured ∧ s.tellsOfErrors q → ((s.overrun p).port q).notice? e = some (.error .portOverrun)) ∧
        (e = .lineFault ∧ q = p → ((s.overrun p).port q).notice? e = some .none) ∧
        (¬ (e = .errorCaptured ∧ s.tellsOfErrors q) → ¬ (e = .lineFault ∧ q = p) →
          ((s.overrun p).port q).notice? e = (s.port q).notice? e)) ∧
      s.overrun p = (s.withErrors (s.overrun p).errors).withPorts (s.overrun p).ports := by
  obtain ⟨hrest, hother, hnotice, hself⟩ := s.lineFault_does p LineStatus.setOverrun
  have hcaptured (q : Port) : (s.overrun p).port q =
      { (s.lineFault p LineStatus.setOverrun).port q with notices := ((s.overrun p).port q).notices, attn := ((s.overrun p).port q).attn } := by
    unfold State.overrun
    rw [State.port_capture]
    split <;> rfl
  have hrole (q : Port) : ((s.lineFault p LineStatus.setOverrun).port q).role = (s.port q).role := by
    by_cases hq : q = p
    · subst hq; rw [hself]
    · rw [hother q hq]
  have hbefore (q : Port) (e : Cause) : ((s.lineFault p LineStatus.setOverrun).port q).notice? e =
      if e = .lineFault ∧ q = p then some .none else (s.port q).notice? e := by
    by_cases hq : q = p
    · subst hq; rw [hnotice]; simp
    · rw [hother q hq, if_neg fun h => hq h.2]
  have hafter (q : Port) (e : Cause) : ((s.overrun p).port q).notice? e =
      if e = .errorCaptured ∧ ((s.port q).role = .stock ∧ (s.errors.locked = false ∨ s.settings.everyError = true)) then
        some (.error .portOverrun)
      else if e = .lineFault ∧ q = p then some .none else (s.port q).notice? e := by
    rw [State.overrun, State.notice?_capture, hbefore, hrole]
    rfl
  refine ⟨State.errors_capture .., fun q hq => ?_, ?_, fun q e => ⟨fun h => ?_, fun h => ?_, fun h h' => ?_⟩, State.capture_eq ..⟩
  · rw [hcaptured, hother q hq]
  · rw [hcaptured, hself]
    rfl
  · exact (hafter q e).trans (if_pos h)
  · have hne : e ≠ .errorCaptured := by rw [h.1]; decide
    exact (hafter q e).trans ((if_neg fun h' => hne h'.1).trans (if_pos h))
  · exact (hafter q e).trans ((if_neg h).trans (if_neg h'))

/-! A request row and a frame with both slots full -/

theorem State.arrive_waits (hd : (s.port p).deaf = false) (hl : r.len ≤ 160) (hs : (s.port p).service ≠ none)
    (hw : (s.port p).waiting = none) :
    s.arrive p num r = s.updPort p fun x => { x with assembler := .idle, waiting := some { num := num, request := r } } := by
  rw [State.arrive_hears hd hl, State.acceptFrame_waits (by rwa [State.service_assembling]) (by rwa [State.waiting_assembling])]
  exact State.updPort_updPort ..

theorem State.arrive_overruns (hd : (s.port p).deaf = false) (hl : r.len ≤ 160) (hs : (s.port p).service ≠ none)
    (hw : (s.port p).waiting ≠ none) : s.arrive p num r = s.overrun p := by
  rw [State.arrive_hears hd hl, State.acceptFrame_overruns (by rwa [State.service_assembling]) (by rwa [State.waiting_assembling]),
    State.overrun_assembling]

theorem exec_portOverrun_full (hd : (s.port p).deaf = false) (hs : (s.port p).service ≠ none) (hw : (s.port p).waiting ≠ none) :
    exec (.portOverrun p) s = .next (s.overrun p) :=
  congrArg went (if_pos ⟨hd, Option.isSome_iff_ne_none.mpr hs, Option.isSome_iff_ne_none.mpr hw⟩)

theorem exec_portOverrun_free (h : (s.port p).deaf = true ∨ (s.port p).service = none ∨ (s.port p).waiting = none) :
    exec (.portOverrun p) s = .next s := by
  refine congrArg went (if_neg ?_)
  rintro ⟨hd, hs, hw⟩
  obtain h | h | h := h
  · rw [hd] at h; cases h
  · rw [h] at hs; cases hs
  · rw [h] at hw; cases hw

/-- A deaf port takes no request in, whatever row it stands in (R157, R166). -/
theorem exec_requestInstr_deaf (hd : (s.port p).deaf = true) : exec (requestInstr p num r) s = .next s := by
  cases r with
  | unknownKind k | wrongLength k => exact congrArg went ((congrArg (ite _ s) (State.arrive_deaf hd)).trans (ite_self s))
  | _ => exact congrArg went (State.arrive_deaf hd)

/-! The reply that leaves -/

theorem State.replyLeaves_next {x : InService} {reply : Reply} (hs : (s.port p).service = some x) (hx : x.reply = some reply)
    {w : Queued} (hw : (s.port p).waiting = some w) :
    s.replyLeaves p = (s.updPort p fun x => { x with service := none, waiting := none }).handOn p w.num w.request := by
  obtain ⟨n, r, a⟩ := x
  subst hx
  rw [State.replyLeaves, hs, hw]

theorem State.replyLeaves_last {x : InService} {reply : Reply} (hs : (s.port p).service = some x) (hx : x.reply = some reply)
    (hw : (s.port p).waiting = none) : s.replyLeaves p = s.updPort p fun x => { x with service := none } := by
  obtain ⟨n, r, a⟩ := x
  subst hx
  rw [State.replyLeaves, hs, hw]

theorem State.replyLeaves_none (h : ∀ x, (s.port p).service = some x → x.reply = none) : s.replyLeaves p = s := by
  unfold State.replyLeaves
  split
  next n r a hs => cases h _ hs
  next => rfl

/-- What is handed on does not look at the assembler. -/
theorem State.handOn_assembling : (s.assembling p a).handOn p num r = (s.handOn p num r).assembling p a := by
  have hveil (u : State) : u.assembling p a = u.veil (fun q x => if q = p then a else x) u.pending :=
    State.updPorts_congr u (f := fun q x => if q = p then { x with assembler := a } else x)
      (g := fun q x => { x with assembler := if q = p then a else x.assembler }) fun q => by split <;> rfl
  have hpending : (s.handOn p num r).pending = s.pending := State.handOn_overlooks.keeps_pending s
  rw [hveil, State.handOn_veil, hveil, hpending]

/-- The waiting request is handed on as if it arrived when the reply had left. -/
theorem State.handOn_eq_arrive (hd : (s.port p).deaf = false) (hl : r.len ≤ 160) (hs : (s.port p).service = none) :
    s.handOn p num r = (s.arrive p num r).assembling p (s.port p).assembler := by
  rw [State.arrive_hears hd hl, State.acceptFrame_serves (by rwa [State.service_assembling]), ← State.handOn_assembling,
    State.assembling_assembling, State.assembling_self rfl]

/-- The checks refuse a request of a wrong length. -/
theorem portCheck_wrongLength (role : Role) (mode : Mode) (k : Byte) : portCheck role mode (.wrongLength k) =
    some (if k.toNat = 0 ∨ 31 < k.toNat then .badKind
      else if k.toNat ≤ 5 ∨ role = .stock ∧ k.toNat ≤ 24 ∨ role = .bench ∧ 25 ≤ k.toNat ∧ k.toNat ≤ 27 ∨ role = .induct ∧ 28 ≤ k.toNat
        then .badLength
      else .role) := by
  by_cases hk : k.toNat = 0 ∨ 31 < k.toNat
  · rw [if_pos hk]
    exact portCheck_badKind (knownKind_eq_false hk)
  · rw [if_neg hk]
    have hknown : knownKind k = true := (knownKind_iff k).mpr (by omega)
    have hallowed : roleAllows role k = true ↔ k.toNat ≤ 5 ∨ role = .stock ∧ k.toNat ≤ 24 ∨
        role = .bench ∧ 25 ≤ k.toNat ∧ k.toNat ≤ 27 ∨ role = .induct ∧ 28 ≤ k.toNat := by
      cases role <;> simp [roleAllows] <;> omega
    split
    next ha => exact portCheck_badLength hknown (hallowed.mpr ha) rfl
    next ha => exact portCheck_role hknown (Bool.eq_false_iff.mpr fun h => ha (hallowed.mp h))

theorem answerRequest_refused {st : Status} (hc : portCheck (s.port p).role s.mode r = some st) :
    answerRequest p r s = (s, some (refusalAnswer r st)) := by
  simp only [answerRequest, hc]

/-- A request that the checks refuse, handed on: its port's service slot alone changes. -/
theorem State.handOn_refused {st : Status} (hc : portCheck (s.port p).role s.mode r = some st) : s.handOn p num r =
    s.updPort p fun x => { x with service := some { num := num, request := r,
                                                    reply := some { kind := r.kind, num := num, status := (refusalAnswer r st).status,
                                                                    data := (refusalAnswer r st).data } } } := by
  have hc' : portCheck ((s.updPort p fun x => { x with service := some { num := num, request := r, reply := none } }).port p).role
      s.mode r = some st := by rwa [State.port_updPort, if_pos rfl]
  unfold State.handOn
  dsimp only
  rw [answerRequest_refused hc']
  exact State.updPort_updPort ..

end

/-- Settles O50, part by part. -/
theorem slotsServeInOrder : Obligations.SlotsServeInOrder := by
  refine ⟨fun s p num r hr hl hd hs hw => ?_, fun s p num k fields hidle hf hd hs hw => ?_, fun s p x reply hs hx => ?_,
    fun s p hd hs hw => ?_, fun s p h => ?_, fun s p h => exec_portOverrun_free h, fun s p h => congrArg went (State.replyLeaves_none h)⟩
  · refine ⟨_, (exec_requestInstr hr s p num).trans (congrArg went (State.arrive_waits hd hl hs hw)), ?_⟩
    exact State.updPort_does rfl rfl
  · have harrive := (State.receive_frameChars (num := num) (k := k) hidle hd hf).trans (State.acceptFrame_waits hs hw)
    exact ⟨_, congrArg went harrive, State.updPort_does rfl rfl⟩
  · refine ⟨_, rfl, fun hw => ?_, fun w hw hr hl hd => ?_, fun w k hw hk => ?_⟩
    · rw [State.replyLeaves_last hs hx hw]
      exact State.updPort_does rfl rfl
    · have hfreed : (s.updPort p fun y => { y with service := none, waiting := none }).port p =
          { s.port p with service := none, waiting := none } := by rw [State.port_updPort, if_pos rfl]
      refine ⟨_, exec_requestInstr hr _ p w.num, ?_⟩
      rw [State.replyLeaves_next hs hx hw, State.handOn_eq_arrive (by rw [hfreed]; exact hd) hl (by rw [hfreed]), hfreed]
      rfl
    · have hleaves := State.replyLeaves_next hs hx hw
      rw [hk, State.handOn_refused (portCheck_wrongLength ..), State.port_updPort, if_pos rfl] at hleaves
      obtain ⟨hports, hother, hself⟩ := State.updPort_does (hleaves.trans (State.updPort_updPort ..)) rfl
      exact ⟨hports, hother, congrArg PortState.service hself, by rw [hself]⟩
  · have hfull := exec_portOverrun_full hd hs hw
    refine ⟨_, hfull, fun num r hr hl => ?_, fun num k fields hidle hf => ?_, s.overrun_does p⟩
    · exact (exec_requestInstr hr s p num).trans (congrArg went (State.arrive_overruns hd hl hs hw))
    · exact congrArg went ((State.receive_frameChars hidle hd hf).trans (State.acceptFrame_overruns hs hw))
  · have hd : (s.port p).deaf = true := by simpa [PortState.deaf] using h
    exact ⟨fun num r => exec_requestInstr_deaf hd, fun chars => congrArg went (State.receive_deaf hd chars)⟩

end Sys2Proof.Machine
end
